-- ==== Sys2Proof/Word.lean ====
section
/-! DEFINITION. The byte, the byte sequence of a fixed length, and the number widths of the spec
(00_scope.md R11 to R14; 20_memory.md R40). -/

namespace Sys2Proof

/-- R11, R40: the unit of storage and of transfer, an unsigned 8-bit value. -/
abbrev Byte := BitVec 8

/-- R14: a 16-bit unsigned number (a register address, a command's value, the CRC accumulator). -/
abbrev Word16 := BitVec 16

/-- R31, R191: the 32-bit unsigned number of Unix seconds on the `TIME` input. -/
abbrev Time32 := BitVec 32

/-- R12: a byte sequence of the length `n`, index 0 first; the length is carried as a proof, so a
buffer of a wrong length cannot be built. -/
structure Bytes (n : Nat) where
  bytes : List Byte
  len : bytes.length = n
  deriving DecidableEq, Repr

/-- R43: a cipher block, 16 consecutive bytes. -/
abbrev Block := Bytes 16

end Sys2Proof
end

