-- ==== Sys2Proof/Machine/Bytes.lean ====
section
/-! DEFINITION. Byte sequences: slices, concatenation, XOR, and the conversions between bytes and numbers
(00_scope.md R12 to R15; 20_memory.md R42, R43). -/

namespace Sys2Proof

/-- R12: `s[i]`. -/
def Bytes.at {n : Nat} (s : Bytes n) (i : Nat) (h : i < n) : Byte :=
  s.bytes[i]'(by rw [s.len]; exact h)

/-- R12, R15: `s[a : a + m]`, the `m` bytes from index `a` on. -/
def Bytes.slice {n : Nat} (s : Bytes n) (a m : Nat) (h : a + m ≤ n) : Bytes m where
  bytes := (s.bytes.drop a).take m
  len := by simp [s.len]; omega

/-- R12: `a || b`, the bytes of `a` first. -/
def Bytes.append {m n : Nat} (a : Bytes m) (b : Bytes n) : Bytes (m + n) where
  bytes := a.bytes ++ b.bytes
  len := by simp [a.len, b.len]

/-- The same bytes under an equal length. -/
def Bytes.cast {m n : Nat} (h : m = n) (a : Bytes m) : Bytes n where
  bytes := a.bytes
  len := by rw [a.len, h]

/-- R13, R43: `XOR` of two sequences of equal length, byte by byte. -/
def Bytes.xor {n : Nat} (a b : Bytes n) : Bytes n where
  bytes := List.zipWith (fun x y => x ^^^ y) a.bytes b.bytes
  len := by simp [a.len, b.len]

/-- R12: `v*n` inside a sequence, `n` copies of the byte `v`. -/
def Bytes.replicate (n : Nat) (v : Byte) : Bytes n where
  bytes := List.replicate n v
  len := by simp

/-- The sequence whose byte `i` is `f i`. -/
def Bytes.ofFn {n : Nat} (f : Fin n → Byte) : Bytes n where
  bytes := List.ofFn f
  len := by simp

/-- R44: the sequence as one of the length `n`, where it has that length; nothing is cut or padded. -/
def Bytes.ofList? (n : Nat) (l : List Byte) : Option (Bytes n) :=
  if h : l.length = n then some ⟨l, h⟩ else none

/-- R43: block `k` of a buffer, `b[16*k : 16*k + 16]`. -/
def Bytes.block {n : Nat} (b : Bytes n) (k : Nat) (h : 16 * k + 16 ≤ n) : Block :=
  b.slice (16 * k) 16 h

/-- R14: `be16(hi, lo) = hi*256 + lo`. -/
def be16 (hi lo : Byte) : Word16 := hi ++ lo

/-- R14: the high byte of a 16-bit value, `v >> 8`. -/
def hiByte (v : Word16) : Byte := v.extractLsb' 8 8

/-- R14: the low byte of a 16-bit value, `v AND 0xFF`. -/
def loByte (v : Word16) : Byte := v.extractLsb' 0 8

/-- R14: `be16_bytes(v) = [v >> 8, v AND 0xFF]`. -/
def be16Bytes (v : Word16) : Bytes 2 := ⟨[hiByte v, loByte v], rfl⟩

/-- R14: `be32_bytes(v)`, most significant byte first. -/
def be32Bytes (v : Time32) : Bytes 4 :=
  ⟨[v.extractLsb' 24 8, v.extractLsb' 16 8, v.extractLsb' 8 8, v.extractLsb' 0 8], rfl⟩

/-- The first `k` whole bytes of a number, most significant byte first: the numbering of the opcode table's
`match` column, where byte 0 is leftmost (30_encoding.md, R61, R64). -/
def beBytes (k w : Nat) : Bytes k where
  bytes := (List.range k).map fun i => BitVec.ofNat 8 (w >>> (8 * (k - 1 - i)))
  len := by simp

end Sys2Proof
end

