-- ==== Sys2Proof/Syntax.lean ====
section
/-! DEFINITION. The instructions: one constructor for each row of spec/opcode_table.json, and the value
decoders, which have rules (R159 to R163) and no row. -/

namespace Sys2Proof

/-- R153, R161: an exact decimal number, `mantissa / 10 ^ places`. -/
structure Decimal where
  mantissa : Int
  places : Nat
  deriving DecidableEq, Repr

/-- The 19 rows of the opcode table. Five operations of the block (R69), the three sub-formats of the
device-response window (R64), and the eleven command builders of the host's catalog (R71, R72). -/
inductive Instr where
  /-- `CSUM`, R90. -/
  | csum
  /-- `ENC`, R104. -/
  | enc
  /-- `DEC`, R106. -/
  | dec
  /-- `BUILD`, R120. -/
  | build
  /-- `PARSE`, R130. -/
  | parse
  /-- `RESP7.ERROR`, R133: slave address, low seven bits of the raw function code, exception code, and the
  four bytes 3..6 that are carried and never inspected. -/
  | respError (slave : Byte) (code : BitVec 7) (exc : Byte) (x3 x4 x5 x6 : Byte)
  /-- `RESP7.READ`, R134: slave address, `byteCount`, and the four bytes 3..6. -/
  | respRead (slave : Byte) (count : Byte) (d0 d1 d2 d3 : Byte)
  /-- `RESP7.ECHO`, R135: slave address, the raw function code (bit 7 clear), four data bytes, and byte 6,
  carried and never inspected. -/
  | respEcho (slave : Byte) (code : BitVec 7) (d0 d1 d2 d3 : Byte) (x6 : Byte)
  /-- `read(register)`, R150. -/
  | readRegister (reg : Word16)
  /-- `read.power`, R151. -/
  | readPower
  /-- `read.powerLevel`, R151. -/
  | readPowerLevel
  /-- `read.ambientTemperature`, R151. -/
  | readAmbientTemperature
  /-- `setPower(on)`, R152. -/
  | setPower (on : Bool)
  /-- `setTemperature(celsius)`, R153. -/
  | setTemperature (celsius : Decimal)
  /-- `setPowerLevel(level)`, R154; the argument is any integer (D22). -/
  | setPowerLevel (level : Int)
  /-- `setFan1Speed(speed)`, R155; the argument is any integer (D22). -/
  | setFan1Speed (speed : Int)
  /-- `setFan2Speed(speed)`, R156; the argument is any integer (D22). -/
  | setFan2Speed (speed : Int)
  /-- `setAutoMode(enabled)`, R157. -/
  | setAutoMode (enabled : Bool)
  /-- `setStandby(enabled)`, R158. -/
  | setStandby (enabled : Bool)
  deriving DecidableEq, Repr

/-- R159: the four value decoders. -/
inductive ValueDecoder where
  /-- R160. -/
  | boolean
  /-- R161. -/
  | temperature
  /-- R162. -/
  | number
  /-- R163. -/
  | powerLevel
  deriving DecidableEq, Repr

/-- R151: the telemetry names of the read catalog; the names the spec does not print are numbered. -/
inductive Telemetry where
  | power
  | powerLevel
  | ambientTemperature
  | other (name : Nat)
  deriving DecidableEq, Repr

end Sys2Proof
end

