-- ==== Sys2Proof/WellFormed.lean ====
section
/-! DEFINITION. Which terms of `Instr` have an instruction word: the operands fit the fields of the row's
encoding in spec/opcode_table.json. A term that fits no word is still a call the host can make, and the
machine gives it its meaning. -/

namespace Sys2Proof

/-- The check of each row's fields: R64 (an echo's function code is not `0x03`), R72 (a 16-bit count of
tenths; a value of three bits). -/
def Instr.wellFormed : Instr → Bool
  | .csum => true
  | .enc => true
  | .dec => true
  | .build => true
  | .parse => true
  | .respError _ _ _ _ _ _ _ => true
  | .respRead _ _ _ _ _ _ => true
  | .respEcho _ code _ _ _ _ _ => code != 0x03#7
  | .readRegister _ => true
  | .readPower => true
  | .readPowerLevel => true
  | .readAmbientTemperature => true
  | .setPower _ => true
  | .setTemperature c => c.places == 1 && decide (0 ≤ c.mantissa) && decide (c.mantissa ≤ 65535)
  | .setPowerLevel level => decide (0 ≤ level) && decide (level ≤ 7)
  | .setFan1Speed speed => decide (0 ≤ speed) && decide (speed ≤ 7)
  | .setFan2Speed speed => decide (0 ≤ speed) && decide (speed ≤ 7)
  | .setAutoMode _ => true
  | .setStandby _ => true

/-- The instruction has a word. -/
abbrev Instr.WellFormed (i : Instr) : Prop := i.wellFormed = true

end Sys2Proof
end

