-- ==== Sys2Proof/Decode.lean ====
section
/-! DEFINITION. The decoder: total on all byte sequences, rejecting by name; after it the encoder, from the
same tables (30_encoding.md R61, R64, R69, R71, R72, R74; spec/opcode_table.json). -/

namespace Sys2Proof

/-- Why a byte sequence is no instruction word. -/
inductive Rejection where
  /-- R74: an operation select outside `0x01`..`0x05`. -/
  | reservedOp (op : Byte)
  /-- R71, R72: six bytes that are no command pattern of the catalog. -/
  | notACatalogCommand
  /-- R60: a length that no format of the opcode table has. -/
  | noSuchLength (n : Nat)
  deriving DecidableEq, Repr

/-- R69: the five operation codes; every other value is reserved. -/
def decodeOp (op : Byte) : Except Rejection Instr :=
  if op = 0x01 then .ok .csum
  else if op = 0x02 then .ok .enc
  else if op = 0x03 then .ok .dec
  else if op = 0x04 then .ok .build
  else if op = 0x05 then .ok .parse
  else .error (.reservedOp op)

/-- R71, R151: a read command by its register. The two printed registers are the named reads; `0x0529` has
two names with one word, and the decoder gives the first of them. -/
def decodeRead (reg : Word16) : Instr :=
  if reg = 0x0529 then .readPower
  else if reg = 0x0525 then .readAmbientTemperature
  else .readRegister reg

/-- R72: a value field of one bit, seven zero bits above it and a zero high byte. -/
def bitField (value : Word16) : Option Bool :=
  if value = 0 then some false else if value = 1 then some true else none

/-- R72: a value field of three bits below thirteen zero bits. -/
def threeBitField (value : Word16) : Option Int :=
  if value.toNat < 8 then some (Int.ofNat value.toNat) else none

/-- R72: a write command by its register and value. -/
def decodeWrite (reg value : Word16) : Option Instr :=
  if reg = 0x031C then (bitField value).map .setPower
  else if reg = 0x0525 then some (.setTemperature ⟨Int.ofNat value.toNat, 1⟩)
  else if reg = 0x0440 then (threeBitField value).map .setPowerLevel
  else if reg = 0x054B then (threeBitField value).map .setFan1Speed
  else if reg = 0x054D then (threeBitField value).map .setFan2Speed
  else if reg = 0x0443 then (bitField value).map .setAutoMode
  else if reg = 0x0444 then (bitField value).map .setStandby
  else none

/-- R61, R71, R72: the six bytes of a catalog command. -/
def decodeCommand (slave function regHi regLo valHi valLo : Byte) : Option Instr :=
  if slave = 0x01 ∧ function = 0x03 ∧ valHi = 0x00 ∧ valLo = 0x01 then some (decodeRead (be16 regHi regLo))
  else if slave = 0x01 ∧ function = 0x06 then decodeWrite (be16 regHi regLo) (be16 valHi valLo)
  else none

/-- R64: the seven bytes of a device-response window, the three sub-formats tested in their order. -/
def decodeWindow (b0 b1 b2 b3 b4 b5 b6 : Byte) : Instr :=
  if b1 &&& 0x80 ≠ 0 then .respError b0 (b1.extractLsb' 0 7) b2 b3 b4 b5 b6
  else if b1 = 0x03 then .respRead b0 b2 b3 b4 b5 b6
  else .respEcho b0 (b1.extractLsb' 0 7) b2 b3 b4 b5 b6

/-- R60, R75: the formats have three different lengths, so the length alone selects the table. -/
def decode (word : List Byte) : Except Rejection Instr :=
  match word with
  | [op] => decodeOp op
  | [b0, b1, b2, b3, b4, b5] =>
    match decodeCommand b0 b1 b2 b3 b4 b5 with
    | some i => .ok i
    | none => .error .notACatalogCommand
  | [b0, b1, b2, b3, b4, b5, b6] => .ok (decodeWindow b0 b1 b2 b3 b4 b5 b6)
  | other => .error (.noSuchLength other.length)

/-- R69: the operation code of an instruction that is an operation of the block. -/
def Instr.opCode? : Instr → Option Byte
  | .csum => some 0x01
  | .enc => some 0x02
  | .dec => some 0x03
  | .build => some 0x04
  | .parse => some 0x05
  | .respError _ _ _ _ _ _ _ => none
  | .respRead _ _ _ _ _ _ => none
  | .respEcho _ _ _ _ _ _ _ => none
  | .readRegister _ => none
  | .readPower => none
  | .readPowerLevel => none
  | .readAmbientTemperature => none
  | .setPower _ => none
  | .setTemperature _ => none
  | .setPowerLevel _ => none
  | .setFan1Speed _ => none
  | .setFan2Speed _ => none
  | .setAutoMode _ => none
  | .setStandby _ => none

/-- R71: the pattern of every read command. -/
def encodeRead (reg : Word16) : List Byte := [0x01, 0x03, hiByte reg, loByte reg, 0x00, 0x01]

/-- R72: the pattern of every write command. -/
def encodeWrite (reg value : Word16) : List Byte :=
  [0x01, 0x06, hiByte reg, loByte reg, hiByte value, loByte value]

/-- R72: the value of a field of one bit. -/
def bitValue (b : Bool) : Word16 := if b then 1 else 0

/-- R60 to R72: the word of a well-formed instruction, byte 0 first. -/
def encode : Instr → List Byte
  | .csum => [0x01]
  | .enc => [0x02]
  | .dec => [0x03]
  | .build => [0x04]
  | .parse => [0x05]
  | .respError slave code exc x3 x4 x5 x6 => [slave, 1#1 ++ code, exc, x3, x4, x5, x6]
  | .respRead slave count d0 d1 d2 d3 => [slave, 0x03, count, d0, d1, d2, d3]
  | .respEcho slave code d0 d1 d2 d3 x6 => [slave, 0#1 ++ code, d0, d1, d2, d3, x6]
  | .readRegister reg => encodeRead reg
  | .readPower => encodeRead 0x0529
  | .readPowerLevel => encodeRead 0x0529
  | .readAmbientTemperature => encodeRead 0x0525
  | .setPower on => encodeWrite 0x031C (bitValue on)
  | .setTemperature celsius => encodeWrite 0x0525 (BitVec.ofInt 16 celsius.mantissa)
  | .setPowerLevel level => encodeWrite 0x0440 (BitVec.ofInt 16 level)
  | .setFan1Speed speed => encodeWrite 0x054B (BitVec.ofInt 16 speed)
  | .setFan2Speed speed => encodeWrite 0x054D (BitVec.ofInt 16 speed)
  | .setAutoMode enabled => encodeWrite 0x0443 (bitValue enabled)
  | .setStandby enabled => encodeWrite 0x0444 (bitValue enabled)

/-- The name the decoder gives to a word that several rows of the table share: the reads of the two printed
registers (R151). -/
def Instr.canonical : Instr → Instr
  | .readRegister reg => decodeRead reg
  | .readPowerLevel => .readPower
  | i => i

/-- The instruction the decoder reads from a table row's word: `nbits` bits, numbered as the table's `match`
column numbers them, byte 0 leftmost. -/
def decodeTableWord (nbits w : Nat) : Option Instr :=
  match decode (beBytes ((nbits + 7) / 8) w).bytes with
  | .ok i => some i
  | .error _ => none

end Sys2Proof
end

