-- ==== Sys2Proof/Machine/Checksum.lean ====
section
/-! DEFINITION. The checksum as a function of bytes (40_checksum.md R90 to R93): the table-driven form the
block runs, and the bit-shifting form it must agree with. -/

namespace Sys2Proof.Machine

/-- R90: the two accumulator halves, working values of one operation (R32). -/
structure Accumulator where
  hi : Byte
  lo : Byte
  deriving DecidableEq, Repr

/-- R90: both halves are seeded with `0xFF`. -/
def checksumSeed : Accumulator := ⟨0xFF, 0xFF⟩

/-- R41: a table read; the index is a byte, so it is always in range. -/
def tableRead (table : Bytes 256) (index : Byte) : Byte := table.at index.toNat index.isLt

/-- R90: one byte of the table-driven form. Both new halves use the old ones. -/
def checksumStep (highTable lowTable : Bytes 256) (acc : Accumulator) (b : Byte) : Accumulator :=
  let index := acc.lo ^^^ b
  ⟨tableRead lowTable index, acc.hi ^^^ tableRead highTable index⟩

/-- R90, R94: `checksum(data)`, low half first. -/
def checksum (highTable lowTable : Bytes 256) (data : List Byte) : Bytes 2 :=
  let acc := data.foldl (checksumStep highTable lowTable) checksumSeed
  ⟨[acc.lo, acc.hi], rfl⟩

/-- R91: one of the eight shift steps, polynomial `0xA001`, least significant bit first. -/
def crcShift (crc : Word16) : Word16 :=
  if crc.getLsbD 0 then (crc >>> 1) ^^^ 0xA001 else crc >>> 1

/-- R91: eight shift steps. -/
def crcShift8 (crc : Word16) : Word16 :=
  crcShift (crcShift (crcShift (crcShift (crcShift (crcShift (crcShift (crcShift crc)))))))

/-- R91: one byte of the bit-shifting form; the byte enters the low half. -/
def crcByte (crc : Word16) (b : Byte) : Word16 := crcShift8 (crc ^^^ b.zeroExtend 16)

/-- R91: the bit-shifting form, low byte first. -/
def checksumBitwise (data : List Byte) : Bytes 2 :=
  let crc := data.foldl crcByte 0xFFFF
  ⟨[loByte crc, hiByte crc], rfl⟩

/-- R93: `T[i]`, the 16-bit table the two byte tables are cut from. -/
def crcTableEntry (i : Byte) : Word16 := crcShift8 (i.zeroExtend 16)

end Sys2Proof.Machine
end

