-- ==== Sys2Proof/Config.lean ====
section
/-! DEFINITION. The parameters the spec leaves OPEN (00_scope.md R10; 93_implementation_defined.md U1, U2,
U7, U9): constants without a body, so no proof can rest on a value of one. -/

namespace Sys2Proof

/-- R21, U1: byte `i` of `KEY`; its value is not in the source. -/
opaque Config.keyByte : Fin 16 → Byte

/-- R22, U1: byte `i` of `IV`; its value is not in the source. -/
opaque Config.ivByte : Fin 16 → Byte

/-- R23, U1: byte `i` of `SECRET`; its value is not in the source. -/
opaque Config.secretByte : Fin 16 → Byte

/-- R101, U2: `BLOCK_CIPHER`, for each 16-byte key a permutation of the 16-byte blocks and nothing more:
its forward direction is `BlockEncrypt`, its inverse `BlockDecrypt`. -/
opaque Config.blockCipher : Bytes 16 → Equiv.Perm Block

/-- R153, U7: `ROUND_TIES`; whether `round` takes the value exactly half-way between `n` and `n + 1` up. -/
opaque Config.roundTieUp : Int → Bool

/-- R151, U9: `READ_REGISTERS` beyond the rows the spec prints, by a number standing for the telemetry name. -/
opaque Config.otherReadRegister : Nat → Word16

end Sys2Proof
end

