-- ==== Sys2Proof/Machine/Cipher.lean ====
section
/-! DEFINITION. The cipher's framing as functions of bytes (41_cipher.md R100 to R107). Each takes the
block cipher's directions under the key in use as arguments, so that the framing reads as the spec writes it and can be
checked with the spec's own test ciphers; `blockEncrypt` and `blockDecrypt` are the block's. -/

namespace Sys2Proof.Machine

/-- R101: `BlockEncrypt(K, X)`. -/
def blockEncrypt (key : Bytes 16) (x : Block) : Block := Config.blockCipher key x

/-- R101: `BlockDecrypt(K, Y)`. -/
def blockDecrypt (key : Bytes 16) (y : Block) : Block := (Config.blockCipher key).symm y

/-- R102: CBC encryption of `n` blocks, chained from `prev`. -/
def cbcEncrypt (encBlock : Block → Block) : (n : Nat) → (prev : Block) → Bytes (16 * n) → Bytes (16 * n)
  | 0, _, plain => plain
  | n + 1, prev, plain =>
    let c := encBlock ((plain.slice 0 16 (by omega)).xor prev)
    (c.append (cbcEncrypt encBlock n c (plain.slice 16 (16 * n) (by omega)))).cast (by omega)

/-- R103: CBC decryption of `n` blocks, chained from `prev`. -/
def cbcDecrypt (decBlock : Block → Block) : (n : Nat) → (prev : Block) → Bytes (16 * n) → Bytes (16 * n)
  | 0, _, cipher => cipher
  | n + 1, prev, cipher =>
    let c := cipher.slice 0 16 (by omega)
    (((decBlock c).xor prev).append (cbcDecrypt decBlock n c (cipher.slice 16 (16 * n) (by omega)))).cast
      (by omega)

/-- R10, R68: the pad block, sixteen copies of `0x10`. -/
def padBlock : Block := Bytes.replicate 16 0x10

/-- R104: the 48 bytes of the three-block encryption, the third block still in place. -/
def encrypt48 (encBlock : Block → Block) (iv : Block) (p : Bytes 32) : Bytes 48 :=
  cbcEncrypt encBlock 3 iv (p.append padBlock)

/-- R104: `encrypt(p)`, the first two encrypted blocks. -/
def encryptWith (encBlock : Block → Block) (iv : Block) (p : Bytes 32) : Bytes 32 :=
  (encrypt48 encBlock iv p).slice 0 32 (by omega)

/-- R106: `encryptedPad`, the third ciphertext block rebuilt. -/
def encryptedPad (encBlock : Block → Block) (c : Bytes 32) : Block :=
  encBlock (padBlock.xor (c.block 1 (by omega)))

/-- R106: the 48 decrypted bytes, the pad block still in place. -/
def decrypt48 (encBlock decBlock : Block → Block) (iv : Block) (c : Bytes 32) : Bytes 48 :=
  cbcDecrypt decBlock 3 iv (c.append (encryptedPad encBlock c))

/-- R106: `decrypt(c)`, the first 32 decrypted bytes. -/
def decryptWith (encBlock decBlock : Block → Block) (iv : Block) (c : Bytes 32) : Bytes 32 :=
  (decrypt48 encBlock decBlock iv c).slice 0 32 (by omega)

/-- R100, R104: `encrypt(p)` under a key and an initialisation vector. -/
def encrypt (key : Bytes 16) (iv : Block) (p : Bytes 32) : Bytes 32 := encryptWith (blockEncrypt key) iv p

/-- R100, R106: `decrypt(c)` under a key and an initialisation vector. -/
def decrypt (key : Bytes 16) (iv : Block) (c : Bytes 32) : Bytes 32 :=
  decryptWith (blockEncrypt key) (blockDecrypt key) iv c

end Sys2Proof.Machine
end

