-- ==== Sys2Proof/Machine/Flags.lean ====
section
/-! DEFINITION. The outcome codes (60_exceptions.md R183) and the flag bits of the serialised record
(30_encoding.md R66). The block has no condition flags (10_state.md R30). -/

namespace Sys2Proof.Machine

/-- R183: `OK`. -/
def statusOk : Byte := 0x00

/-- R183: `VALIDATION_ERROR`. -/
def statusValidationError : Byte := 0x01

/-- R183: `PROTOCOL_ERROR`, never produced by the block. -/
def statusProtocolError : Byte := 0x02

/-- R183: `ILLEGAL_OP`. -/
def statusIllegalOp : Byte := 0x03

/-- R10: `ERROR_BIT`, bit 7 of the raw function code. -/
def errorBit (raw : Byte) : Bool := raw &&& 0x80 != 0

/-- R66: byte 2 of the record. Bit 0 is `isError`, bit 1 says `byteCount` is present, bits 7..2 are 0. -/
def recordFlags (isError byteCountPresent : Bool) : Byte :=
  (if isError then 0x01 else 0x00) ||| (if byteCountPresent then 0x02 else 0x00)

/-- R66: `isError`, read back from the flags byte. -/
def flagIsError (flags : Byte) : Bool := flags.getLsbD 0

/-- R66: whether `byteCount` is present, read back from the flags byte. -/
def flagByteCountPresent (flags : Byte) : Bool := flags.getLsbD 1

end Sys2Proof.Machine
end

