-- ==== Sys2Proof/Machine/Operands.lean ====
section
/-! DEFINITION. The formats an operation reads and writes: the length contract of each operand (20_memory.md
R44), the request plaintext (R62), the device-response window (R64), and the record `PARSE` returns with its
byte form (R65, R66). -/

namespace Sys2Proof.Machine

/-- R44: the operand of `ENC`, `DEC` and `PARSE`, exactly 32 bytes. -/
def packetOperand (inp : List Byte) : Option (Bytes 32) := Bytes.ofList? 32 inp

/-- R44: the operand of `BUILD`, exactly 6 bytes. -/
def commandOperand (inp : List Byte) : Option (Bytes 6) := Bytes.ofList? 6 inp

/-- R10, R62: the marker of a request plaintext. -/
def requestMarker : Bytes 4 := Bytes.replicate 4 0x04

/-- R62, R120: the request plaintext, timestamp, shared secret, command, checksum, marker. -/
def requestPlaintext (time : Time32) (secret : Bytes 16) (command : Bytes 6) (check : Bytes 2) : Bytes 32 :=
  ((((be32Bytes time).append secret).append command).append check).append requestMarker

/-- R64: the device-response window `plaintext[20:27]`. -/
def deviceResponseWindow (plaintext : Bytes 32) : Bytes 7 := plaintext.slice 20 7 (by omega)

/-- R65: the DeviceResponse record. -/
structure DeviceResponse where
  slaveAddress : Byte
  functionCode : Byte
  byteCount : Option Byte
  data : List Byte
  isError : Bool
  deriving DecidableEq, Repr

/-- R136: `dr[3 : min(3 + n, 7)]`, the data of a read reply, cut at the end of the window. -/
def readData (d0 d1 d2 d3 : Byte) (n : Byte) : List Byte := [d0, d1, d2, d3].take n.toNat

/-- R133: the record of an error reply. -/
def errorRecord (slave raw exc : Byte) : DeviceResponse where
  slaveAddress := slave
  functionCode := raw &&& 0x7F
  byteCount := none
  data := [exc]
  isError := true

/-- R134: the record of a read reply. -/
def readRecord (slave n d0 d1 d2 d3 : Byte) : DeviceResponse where
  slaveAddress := slave
  functionCode := 0x03
  byteCount := some n
  data := readData d0 d1 d2 d3 n
  isError := false

/-- R135: the record of a write-echo reply. -/
def echoRecord (slave raw d0 d1 d2 d3 : Byte) : DeviceResponse where
  slaveAddress := slave
  functionCode := raw
  byteCount := none
  data := [d0, d1, d2, d3]
  isError := false

/-- R130, R132: the classification of a window, the error bit tested first, then `0x03`, then every other
code. -/
def classify (dr : Bytes 7) : DeviceResponse :=
  let slave := dr.at 0 (by omega)
  let raw := dr.at 1 (by omega)
  let b2 := dr.at 2 (by omega)
  let b3 := dr.at 3 (by omega)
  let b4 := dr.at 4 (by omega)
  let b5 := dr.at 5 (by omega)
  let b6 := dr.at 6 (by omega)
  if errorBit raw then errorRecord slave raw b2
  else if raw = 0x03 then readRecord slave b2 b3 b4 b5 b6
  else echoRecord slave raw b2 b3 b4 b5

/-- R66: position `i` of the record's four data bytes, `0x00` at or beyond the end of `data`. -/
def dataByte (data : List Byte) (i : Nat) : Byte := data.getD i 0x00

/-- R66: the nine bytes of a record on `OUT`. -/
def serialise (r : DeviceResponse) : Bytes 9 :=
  ⟨[r.slaveAddress, r.functionCode, recordFlags r.isError r.byteCount.isSome, r.byteCount.getD 0x00,
    BitVec.ofNat 8 r.data.length,
    dataByte r.data 0, dataByte r.data 1, dataByte r.data 2, dataByte r.data 3], rfl⟩

/-- R66: the record the host reads from the bytes on `OUT`, where they hold one: nine bytes whose count of
data bytes is 0..4. -/
def deserialise (out : List Byte) : Option DeviceResponse :=
  match out with
  | [slave, code, flags, count, n, d0, d1, d2, d3] =>
    if n.toNat ≤ 4 then
      some { slaveAddress := slave
             functionCode := code
             byteCount := if flagByteCountPresent flags then some count else none
             data := [d0, d1, d2, d3].take n.toNat
             isError := flagIsError flags }
    else none
  | _ => none

end Sys2Proof.Machine
end

