-- ==== Sys2Proof/Machine/State.lean ====
section
/-! DEFINITION. The state of the machine, the reasons a step can stop, and the state after reset
(10_state.md R20 to R36). -/

namespace Sys2Proof.Machine

/-- R160 to R163: what a value decoder answers. -/
inductive DecodedValue where
  /-- R160. -/
  | boolean (b : Bool)
  /-- R161: degrees Celsius, an exact decimal. -/
  | temperature (celsius : Decimal)
  /-- R162. -/
  | number (n : Nat)
  /-- R163. -/
  | powerLevel (level : Nat)
  deriving DecidableEq, Repr

/-- R180 to R183: what the host holds of its last companion function, a command builder or a value decoder.
It is the host's and no part of the block. -/
inductive HostResult where
  /-- No companion function has run. -/
  | nothing
  /-- R150 to R158: a builder's six bytes. -/
  | command (bytes : Bytes 6)
  /-- R159 to R163: a decoder's value. -/
  | value (v : DecodedValue)
  /-- R181: a builder's range check failed; nothing is recorded with it. -/
  | validationError
  /-- R182: a decoder was given an error reply; the exception code is recorded. -/
  | protocolError (code : Byte)
  deriving DecidableEq, Repr

/-- What the host does next (R4, R31, R76): the requests the outside world makes of the machine. -/
inductive Request where
  /-- R31: one transaction, `OP`, `IN[0 : IN_LEN]` and the value the time source holds on `TIME`. -/
  | operation (op : Byte) (operand : List Byte) (time : Time32)
  /-- R31, R54: the same transaction, issued now; its outcome is reported by a later step, unless a reset comes
  first. The `TIME` of the issue is the one a `BUILD` samples (DESIGN CHOICE, log entry 26). -/
  | issue (op : Byte) (operand : List Byte) (time : Time32)
  /-- R76: a command builder of the catalog, named by its six-byte word. -/
  | catalogWord (word : Bytes 6) (time : Time32)
  /-- R64: a device-response window, presented to the classification alone. -/
  | window (word : Bytes 7)
  /-- R76: an instruction called by name with its arguments, which may fit no word. An operation of the block called
  so presents no operand and runs on the bytes that stand on `IN`; R76 always writes the operand with the operation,
  which is `operation` (DESIGN CHOICE, log entry 25). -/
  | call (i : Instr) (time : Time32)
  /-- R159: a value decoder, applied to the record on `OUT`. -/
  | decoder (d : ValueDecoder)
  /-- R210, R211: reset of the block. -/
  | reset
  deriving DecidableEq, Repr

/-- The machine: the constants, the interface fields of R31, and the host's side. `IN_LEN` and `OUT_LEN` are
the lengths of `inp` and `out` (`State.inLen`, `State.outLen`). -/
structure State where
  /-- R20: the protocol constants. -/
  constants : Constants
  /-- R31: `OP`, the operation select. -/
  op : Byte
  /-- R31: `IN[0 : IN_LEN]`. -/
  inp : List Byte
  /-- R31, R191: `TIME`. -/
  time : Time32
  /-- R31, R183: `STATUS`. -/
  status : Byte
  /-- R31: `OUT[0 : OUT_LEN]`. -/
  out : List Byte
  /-- R54, R211: an operation has been issued and its outcome is not yet reported. -/
  busy : Bool
  /-- R180 to R183: the host's last companion result. -/
  hostResult : HostResult
  /-- The requests the host has still to make, next one first. -/
  pending : List Request
  deriving DecidableEq, Repr

/-- R31: `IN_LEN`, the number of operand bytes. -/
def State.inLen (s : State) : Nat := s.inp.length

/-- R31: `OUT_LEN`, the number of result bytes. -/
def State.outLen (s : State) : Nat := s.out.length

/-- The machine stops. -/
inductive Fault where
  /-- Raised by a value decoder when `OUT` holds no record: after an error, or after another operation than
  `PARSE`. D10 says a model must not read those bytes. Safe: the hardware gives no value there. -/
  | noRecordOnOut
  deriving DecidableEq, Repr

/-- The machine gives a request no meaning. -/
inductive Refusal where
  /-- Raised in exec's arm for an instruction that has no meaning yet. Safe. -/
  | notModelled (mnemonic : String)
  /-- Raised by `setTemperature` when `round(celsius*10)` is outside 0..65535: R153, D21, "a model refuses
  it". Safe. -/
  | temperatureOutOfRange
  /-- Raised by a value decoder on a record with fewer than the data bytes it reads: R164, D20, "a model
  refuses anything else". Safe. -/
  | shortRecord
  /-- Raised when the host presents a word that is no command of the catalog: R71, R72 list them all. Safe. -/
  | noSuchCommand
  deriving DecidableEq, Repr

/-- R36, R210, R211: the machine after reset. The constants hold their values, `STATUS` is `0x00`, `OUT_LEN`
is 0, and no operation is in flight. The request fields `OP`, `IN` and `TIME` have no reset value (DESIGN CHOICE,
log entries 3 and 4); the host has asked for nothing yet. -/
def State.reset : State where
  constants := fixedConstants
  op := 0x00
  inp := []
  time := 0
  status := 0x00
  out := []
  busy := false
  hostResult := .nothing
  pending := []

end Sys2Proof.Machine
end

