-- ==== Sys2Proof/Machine/Ops.lean ====
section
/-! DEFINITION. The named operations over the state: presenting a request, completing an operation, raising an
error, reset, and the codec's functions under the constants the state holds. -/

namespace Sys2Proof.Machine

/-- R31: the host presents the request fields of a transaction. -/
def State.present (s : State) (op : Byte) (operand : List Byte) (time : Time32) : State :=
  { s with op := op, inp := operand, time := time }

/-- R31, R191: the time source's value stands on `TIME`. -/
def State.withTime (s : State) (time : Time32) : State := { s with time := time }

/-- R191: `now32()`, the sample of `TIME`. -/
def State.now32 (s : State) : Time32 := s.time

/-- R54: an operation is issued; its request fields stand on the interface and nothing is reported yet. -/
def State.beginOperation (s : State) : State := { s with busy := true }

/-- R54: the operation in flight comes to its outcome. -/
def State.endOperation (s : State) : State := { s with busy := false }

/-- R15: `return v`; the result is written whole and `STATUS` is `OK`. -/
def State.complete (s : State) (result : List Byte) : State :=
  { s with status := statusOk, out := result }

/-- R185: raising an error, the one shared operation: `STATUS` takes the code, `OUT_LEN` becomes 0, and nothing else
changes. -/
def State.raiseError (s : State) (code : Byte) : State := { s with status := code, out := [] }

/-- R15, R181: `raise ValidationError` in an operation of the block. -/
def State.raiseValidationError (s : State) : State := s.raiseError statusValidationError

/-- R74, R184: a reserved `OP`. -/
def State.raiseIllegalOp (s : State) : State := s.raiseError statusIllegalOp

/-- R36, R211: reset of the block. An operation in flight is abandoned with no output. The constants keep their values
(R210); the request fields and the host's side are not the block's. -/
def State.resetBlock (s : State) : State := { s with status := statusOk, out := [], busy := false }

/-- R180: the host holds the outcome of a companion function. -/
def State.setHostResult (s : State) (r : HostResult) : State := { s with hostResult := r }

/-- R90: `checksum(data)` with the tables the machine holds. -/
def State.checksum (s : State) (data : List Byte) : Bytes 2 :=
  Machine.checksum s.constants.highTable s.constants.lowTable data

/-- R104: `encrypt(p)` under the machine's key and initialisation vector. -/
def State.encrypt (s : State) (p : Bytes 32) : Bytes 32 :=
  Machine.encrypt s.constants.key s.constants.iv p

/-- R106: `decrypt(c)` under the machine's key and initialisation vector. -/
def State.decrypt (s : State) (c : Bytes 32) : Bytes 32 :=
  Machine.decrypt s.constants.key s.constants.iv c

/-- R120: the packet of a command at the time `TIME` holds. -/
def State.buildPacket (s : State) (command : Bytes 6) : Bytes 32 :=
  s.encrypt (requestPlaintext s.now32 s.constants.secret command (s.checksum command.bytes))

/-- R130: the record of a notification. -/
def State.parseResponse (s : State) (c : Bytes 32) : DeviceResponse :=
  classify (deviceResponseWindow (s.decrypt c))

/-- R120, R121: the `BUILD` transaction on the operand `IN`, the length tested before anything else. -/
def State.runBuild (s : State) : State :=
  match commandOperand s.inp with
  | some command => s.complete (s.buildPacket command).bytes
  | none => s.raiseValidationError

/-- R76: a pseudo-instruction's expansion. The builder's six bytes are the host's command; they are presented
as the operand of a `BUILD`, which the block performs. -/
def State.issueBuild (s : State) (command : Bytes 6) : State :=
  ((s.setHostResult (.command command)).present 0x04 command.bytes s.time).runBuild

/-- R66, R130: a record is the result of the operation. -/
def State.completeRecord (s : State) (r : DeviceResponse) : State := s.complete (serialise r).bytes

end Sys2Proof.Machine
end

