-- ==== Sys2Proof/Machine/Catalog.lean ====
section
/-! DEFINITION. The command catalog of the host (44_catalog_and_decoders.md R150 to R158): the six bytes each
builder makes, and the builder as a pseudo-instruction (R76), which presents them to `BUILD`. -/

namespace Sys2Proof.Machine

/-- R150: `readCommand(reg)`. -/
def readCommand (reg : Word16) : Bytes 6 := ⟨[0x01, 0x03, hiByte reg, loByte reg, 0x00, 0x01], rfl⟩

/-- R72: a write command of a register and a value. -/
def writeCommand (reg value : Word16) : Bytes 6 :=
  ⟨[0x01, 0x06, hiByte reg, loByte reg, hiByte value, loByte value], rfl⟩

/-- R151: the register of a telemetry name. -/
def telemetryRegister : Telemetry → Word16
  | .power => 0x0529
  | .powerLevel => 0x0529
  | .ambientTemperature => 0x0525
  | .other name => Config.otherReadRegister name

/-- R150, R151: the read command of a telemetry name. -/
def readTelemetry (t : Telemetry) : Bytes 6 := readCommand (telemetryRegister t)

/-- R152, R157, R158: the value `1` or `0`. -/
def switchValue (on : Bool) : Word16 := if on then 1 else 0

/-- R152: `setPower(on)`. -/
def setPowerCommand (on : Bool) : Bytes 6 := writeCommand 0x031C (switchValue on)

/-- R157: `setAutoMode(enabled)`. -/
def setAutoModeCommand (enabled : Bool) : Bytes 6 := writeCommand 0x0443 (switchValue enabled)

/-- R158: `setStandby(enabled)`. -/
def setStandbyCommand (enabled : Bool) : Bytes 6 := writeCommand 0x0444 (switchValue enabled)

/-- R153: the integer nearest to `num / den` for a positive `den`; a value exactly half-way goes as the
parameter `ROUND_TIES` says. -/
def roundNearest (num : Int) (den : Nat) : Int :=
  let q := num / (den : Int)
  let r := num % (den : Int)
  if 2 * r < den then q
  else if (den : Int) < 2 * r then q + 1
  else if Config.roundTieUp q then q + 1 else q

/-- R153: `round(celsius * 10)`, exact arithmetic on the decimal value. -/
def temperatureTenths (celsius : Decimal) : Int :=
  roundNearest (celsius.mantissa * 10) (10 ^ celsius.places)

/-- R153: `setTemperature(celsius)` has its six bytes where the value fits 16 bits unsigned. -/
def setTemperatureCommand (celsius : Decimal) : Option (Bytes 6) :=
  let v := temperatureTenths celsius
  if 0 ≤ v ∧ v ≤ 65535 then some (writeCommand 0x0525 (BitVec.ofInt 16 v)) else none

/-- R154 to R156: a write command of a small integer, where it lies in the range the builder checks. -/
def rangedCommand (reg : Word16) (least greatest value : Int) : Option (Bytes 6) :=
  if least ≤ value ∧ value ≤ greatest then some (writeCommand reg (BitVec.ofInt 16 value)) else none

/-- R154. -/
def setPowerLevelCommand (level : Int) : Option (Bytes 6) := rangedCommand 0x0440 1 5 level

/-- R155. -/
def setFan1SpeedCommand (speed : Int) : Option (Bytes 6) := rangedCommand 0x054B 0 5 speed

/-- R156. -/
def setFan2SpeedCommand (speed : Int) : Option (Bytes 6) := rangedCommand 0x054D 0 5 speed

/-- R76, R154, R181: a builder with a range check: on failure `ValidationError` is raised on the host and no
`BUILD` is issued. -/
def State.issueChecked (s : State) (command : Option (Bytes 6)) : State :=
  match command with
  | some c => s.issueBuild c
  | none => s.setHostResult .validationError

/-- R150: `read(register)`. -/
def execReadRegister (reg : Word16) (s : State) : Host.Outcome State Fault Refusal :=
  .next (s.issueBuild (readCommand reg))

/-- R151: `read.power`. -/
def execReadPower (s : State) : Host.Outcome State Fault Refusal :=
  .next (s.issueBuild (readTelemetry .power))

/-- R151: `read.powerLevel`. -/
def execReadPowerLevel (s : State) : Host.Outcome State Fault Refusal :=
  .next (s.issueBuild (readTelemetry .powerLevel))

/-- R151: `read.ambientTemperature`. -/
def execReadAmbientTemperature (s : State) : Host.Outcome State Fault Refusal :=
  .next (s.issueBuild (readTelemetry .ambientTemperature))

/-- R152: `setPower(on)`. -/
def execSetPower (on : Bool) (s : State) : Host.Outcome State Fault Refusal :=
  .next (s.issueBuild (setPowerCommand on))

/-- R153: `setTemperature(celsius)`. -/
def execSetTemperature (celsius : Decimal) (s : State) : Host.Outcome State Fault Refusal :=
  match setTemperatureCommand celsius with
  | some command => .next (s.issueBuild command)
  | none => .refused .temperatureOutOfRange

/-- R154: `setPowerLevel(level)`. -/
def execSetPowerLevel (level : Int) (s : State) : Host.Outcome State Fault Refusal :=
  .next (s.issueChecked (setPowerLevelCommand level))

/-- R155: `setFan1Speed(speed)`. -/
def execSetFan1Speed (speed : Int) (s : State) : Host.Outcome State Fault Refusal :=
  .next (s.issueChecked (setFan1SpeedCommand speed))

/-- R156: `setFan2Speed(speed)`. -/
def execSetFan2Speed (speed : Int) (s : State) : Host.Outcome State Fault Refusal :=
  .next (s.issueChecked (setFan2SpeedCommand speed))

/-- R157: `setAutoMode(enabled)`. -/
def execSetAutoMode (enabled : Bool) (s : State) : Host.Outcome State Fault Refusal :=
  .next (s.issueBuild (setAutoModeCommand enabled))

/-- R158: `setStandby(enabled)`. -/
def execSetStandby (enabled : Bool) (s : State) : Host.Outcome State Fault Refusal :=
  .next (s.issueBuild (setStandbyCommand enabled))

end Sys2Proof.Machine
end

