-- ==== Sys2Proof/Machine/ChecksumEngine.lean ====
section
/-! DEFINITION. The Checksum Engine: `CSUM` (40_checksum.md). -/

namespace Sys2Proof.Machine

/-- R90: `CSUM`; every operand has a checksum. -/
def execCsum (s : State) : Host.Outcome State Fault Refusal :=
  .next (s.complete (s.checksum s.inp).bytes)

end Sys2Proof.Machine
end

