-- ==== Sys2Proof/Machine/PacketBuilder.lean ====
section
/-! DEFINITION. The Packet Builder: `BUILD` (42_packet_builder.md). -/

namespace Sys2Proof.Machine

/-- R120: `BUILD`. -/
def execBuild (s : State) : Host.Outcome State Fault Refusal := .next s.runBuild

end Sys2Proof.Machine
end

