-- ==== Sys2Proof/Machine/PacketCipher.lean ====
section
/-! DEFINITION. The Symmetric Packet Cipher: `ENC` and `DEC` (41_cipher.md). -/

namespace Sys2Proof.Machine

/-- R104, R112: `ENC`, the length tested before any cipher work. -/
def execEnc (s : State) : Host.Outcome State Fault Refusal :=
  match packetOperand s.inp with
  | some p => .next (s.complete (s.encrypt p).bytes)
  | none => .next s.raiseValidationError

/-- R106, R112: `DEC`, the length tested before any cipher work. -/
def execDec (s : State) : Host.Outcome State Fault Refusal :=
  match packetOperand s.inp with
  | some c => .next (s.complete (s.decrypt c).bytes)
  | none => .next s.raiseValidationError

end Sys2Proof.Machine
end

