-- ==== Sys2Proof/Machine/ResponseParser.lean ====
section
/-! DEFINITION. The Response Parser: `PARSE`, and the three sub-formats of the window (43_response_parser.md). -/

namespace Sys2Proof.Machine

/-- R130, R131: `PARSE`, the length tested before any cipher work. -/
def execParse (s : State) : Host.Outcome State Fault Refusal :=
  match packetOperand s.inp with
  | some c => .next (s.completeRecord (s.parseResponse c))
  | none => .next s.raiseValidationError

/-- R133: `RESP7.ERROR`; the bytes 3..6 are not inspected. -/
def execRespError (slave : Byte) (code : BitVec 7) (exc : Byte) (s : State) : Host.Outcome State Fault Refusal :=
  .next (s.completeRecord (errorRecord slave (1#1 ++ code) exc))

/-- R134, R136: `RESP7.READ`. -/
def execRespRead (slave count d0 d1 d2 d3 : Byte) (s : State) : Host.Outcome State Fault Refusal :=
  .next (s.completeRecord (readRecord slave count d0 d1 d2 d3))

/-- R64, R135: `RESP7.ECHO`; the byte 6 is not inspected. The sub-formats are tested in their order, so seven
bytes whose raw function code is `0x03` are a read reply, under this name too (no word decodes to that term). -/
def execRespEcho (slave : Byte) (code : BitVec 7) (d0 d1 d2 d3 x6 : Byte) (s : State) :
    Host.Outcome State Fault Refusal :=
  if code = 0x03#7 then .next (s.completeRecord (readRecord slave d0 d1 d2 d3 x6))
  else .next (s.completeRecord (echoRecord slave (0#1 ++ code) d0 d1 d2 d3))

end Sys2Proof.Machine
end

