-- ==== Sys2Proof/Machine/Dispatch.lean ====
section
/-! DEFINITION. One arm for each instruction. -/

namespace Sys2Proof.Machine

/-- The meaning of each instruction. -/
def exec (i : Instr) (s : State) : Host.Outcome State Fault Refusal :=
  match i with
  | .csum => Sys2Proof.Machine.execCsum s
  | .enc => Sys2Proof.Machine.execEnc s
  | .dec => Sys2Proof.Machine.execDec s
  | .build => Sys2Proof.Machine.execBuild s
  | .parse => Sys2Proof.Machine.execParse s
  | .respError slave code exc _ _ _ _ => Sys2Proof.Machine.execRespError slave code exc s
  | .respRead slave count d0 d1 d2 d3 => Sys2Proof.Machine.execRespRead slave count d0 d1 d2 d3 s
  | .respEcho slave code d0 d1 d2 d3 x6 => Sys2Proof.Machine.execRespEcho slave code d0 d1 d2 d3 x6 s
  | .readRegister reg => Sys2Proof.Machine.execReadRegister reg s
  | .readPower => Sys2Proof.Machine.execReadPower s
  | .readPowerLevel => Sys2Proof.Machine.execReadPowerLevel s
  | .readAmbientTemperature => Sys2Proof.Machine.execReadAmbientTemperature s
  | .setPower on => Sys2Proof.Machine.execSetPower on s
  | .setTemperature celsius => Sys2Proof.Machine.execSetTemperature celsius s
  | .setPowerLevel level => Sys2Proof.Machine.execSetPowerLevel level s
  | .setFan1Speed speed => Sys2Proof.Machine.execSetFan1Speed speed s
  | .setFan2Speed speed => Sys2Proof.Machine.execSetFan2Speed speed s
  | .setAutoMode enabled => Sys2Proof.Machine.execSetAutoMode enabled s
  | .setStandby enabled => Sys2Proof.Machine.execSetStandby enabled s

end Sys2Proof.Machine
end

