-- ==== Sys2Proof/Machine/ValueDecoders.lean ====
section
/-! DEFINITION. The value decoders of the host (44_catalog_and_decoders.md R159 to R165). -/

namespace Sys2Proof.Machine

/-- R160: `data[1] == 1`. -/
def decodeBoolean (_hi lo : Byte) : DecodedValue := .boolean (lo == 0x01)

/-- R161: the 16-bit value divided by 10, exact. -/
def decodeTemperature (hi lo : Byte) : DecodedValue := .temperature ⟨Int.ofNat (be16 hi lo).toNat, 1⟩

/-- R162: the 16-bit value. -/
def decodeNumber (hi lo : Byte) : DecodedValue := .number (be16 hi lo).toNat

/-- R163: the low byte clamped into 1..5. -/
def decodePowerLevel (_hi lo : Byte) : DecodedValue := .powerLevel (min (max lo.toNat 1) 5)

/-- R160 to R163: a decoder's value on the first two data bytes. -/
def decodedValue (d : ValueDecoder) (hi lo : Byte) : DecodedValue :=
  match d with
  | .boolean => decodeBoolean hi lo
  | .temperature => decodeTemperature hi lo
  | .number => decodeNumber hi lo
  | .powerLevel => decodePowerLevel hi lo

/-- R159, R164: what a decoder makes of a record: the error test first, then the value of two data bytes; a
record with fewer data bytes than are read has no meaning (`none`). -/
def decodeRecord (d : ValueDecoder) (r : DeviceResponse) : Option HostResult :=
  if r.isError then
    match r.data with
    | code :: _ => some (.protocolError code)
    | [] => none
  else
    match r.data with
    | hi :: lo :: _ => some (.value (decodedValue d hi lo))
    | _ => none

/-- R159: the host applies a decoder to the record it reads from `OUT`. -/
def runDecoder (d : ValueDecoder) (s : State) : Host.Outcome State Fault Refusal :=
  match deserialise s.out with
  | none => .fault .noRecordOnOut
  | some r =>
    match decodeRecord d r with
    | some result => .next (s.setHostResult result)
    | none => .refused .shortRecord

end Sys2Proof.Machine
end

