-- ==== Sys2Proof/Machine/Requests.lean ====
section
/-! DEFINITION. What each request of the host does (10_state.md R31; 30_encoding.md R74, R76; 60_exceptions.md
R184). -/

namespace Sys2Proof.Machine

/-- R184: `OP` is decoded first; a reserved value gives `ILLEGAL_OP` whatever the operand is. -/
def performOperation (s : State) : Host.Outcome State Fault Refusal :=
  match decode [s.op] with
  | .ok i => exec i s
  | .error _ => .next s.raiseIllegalOp

/-- R71, R72, R76: a builder named by its word. -/
def performWord (word : List Byte) (s : State) : Host.Outcome State Fault Refusal :=
  match decode word with
  | .ok i => exec i s
  | .error _ => .refused .noSuchCommand

/-- R69: an operation called by name has its code on `OP`; `IN` keeps the bytes that stand (DESIGN CHOICE, log entry 25). -/
def State.selectOp (s : State) (i : Instr) : State :=
  match i.opCode? with
  | some op => { s with op := op }
  | none => s

/-- The host's request, performed whole (R31, R45). R76 always writes an operation's operand with it
(`operation`, `issue`). An operation in a `call` presents none and runs on the bytes that stand on `IN` (DESIGN CHOICE,
log entry 25). An issued operation has its `TIME` fixed here, at the issue; R123 and R188 do not say when within a
`BUILD` it is sampled (DESIGN CHOICE, log entry 26). -/
def performRequest (r : Request) (s : State) : Host.Outcome State Fault Refusal :=
  match r with
  | .operation op operand time => performOperation (s.present op operand time)
  | .issue op operand time => .next (s.present op operand time).beginOperation
  | .catalogWord word time => performWord word.bytes (s.withTime time)
  | .window word => performWord word.bytes s
  | .call i time => exec i ((s.withTime time).selectOp i)
  | .decoder d => runDecoder d s
  | .reset => .next s.resetBlock

/-- R54, R211, D16: an operation in flight runs to its outcome, and only a reset keeps it from it; every other request
waits. `TIME` still holds the value of the issue, and a `BUILD` samples that (DESIGN CHOICE, log entry 26). -/
def continueOperation (s : State) : Host.Outcome State Fault Refusal :=
  match s.pending with
  | .reset :: rest => .next { s with pending := rest }.resetBlock
  | _ => performOperation s.endOperation

/-- R31, R211: with no operation in flight the host's next request is performed; with no request the block waits. -/
def takeRequest (s : State) : Host.Outcome State Fault Refusal :=
  match s.pending with
  | [] => .next s
  | r :: rest => performRequest r { s with pending := rest }

/-- The request that presents the table row's word as the host's next one: an operation select on the operand
and the time that stand on the interface, a catalog word, or a window (DESIGN CHOICE, log entry 5). -/
def wordRequest (s : State) (nbits w : Nat) : Option Request :=
  match nbits with
  | 8 => some (.operation (BitVec.ofNat 8 w) s.inp s.time)
  | 48 => some (.catalogWord (beBytes 6 w) s.time)
  | 56 => some (.window (beBytes 7 w))
  | _ => none

end Sys2Proof.Machine
end

