-- ==== Sys2Proof/Machine/Step.lean ====
section
/-! DEFINITION. One step of the machine. -/

namespace Sys2Proof.Machine

/-- R31, R45, R54, R211: an operation in flight is continued; otherwise the next request is performed whole, and with
none pending the block waits and does nothing of its own accord. -/
def step (s : State) : Host.Outcome State Fault Refusal :=
  if s.busy then continueOperation s else takeRequest s

/-- The state in which the host's next request is the instruction of that table word, with no operation in flight
before it. -/
def State.withFetchWord (s : State) (nbits w : Nat) : State :=
  match wordRequest s nbits w with
  | some r => { s with pending := r :: s.pending, busy := false }
  | none => s

end Sys2Proof.Machine
end

