-- ==== Sys2Proof/Safety.lean ====
section
/-! DEFINITION. The terms claims use: a step that answers, the invariant of the machine, what an operation
leaves alone, and the closed forms the spec gives beside its pseudocode. -/

namespace Sys2Proof.Machine

/-- A step that neither faults nor is refused. -/
def SafeStep (s : State) : Prop := ∃ t, step s = .next t

/-- R183: the codes the block produces; `0x02` and `0x04`..`0xFF` are never produced. -/
def LegalStatus (status : Byte) : Prop := status = 0x00 ∨ status = 0x01 ∨ status = 0x03

/-- R65, R139: what holds of every record `PARSE` returns. The length of the data where `byteCount` is above 4 is
decision D8 (log entry 16). -/
def DeviceResponse.Legal (r : DeviceResponse) : Prop :=
  r.functionCode.toNat ≤ 0x7F ∧
  (r.byteCount.isSome = true ↔ r.isError = false ∧ r.functionCode = 0x03) ∧
  (r.isError = true → r.data.length = 1) ∧
  (∀ n, r.byteCount = some n → r.data.length = min n.toNat 4) ∧
  (r.isError = false → r.byteCount = none → r.data.length = 4)

/-- R31, R45, R66, R185: `OUT` is empty after an error, has the length of some operation's result otherwise,
and where it has the length of a record it holds the bytes of a legal one. -/
def LegalOut (s : State) : Prop :=
  (s.status ≠ 0x00 → s.out = []) ∧
  (s.outLen = 0 ∨ s.outLen = 2 ∨ s.outLen = 9 ∨ s.outLen = 32) ∧
  (s.outLen = 9 → ∃ r : DeviceResponse, r.Legal ∧ s.out = (serialise r).bytes)

/-- R71, R72, R161 to R163: a command the host holds is a command of the catalog, and a decoded value lies in
its decoder's range. -/
def LegalHostResult (r : HostResult) : Prop :=
  match r with
  | .nothing => True
  | .command c => ∃ i, decode c.bytes = .ok i
  | .value (.boolean _) => True
  | .value (.temperature c) => c.places = 1 ∧ 0 ≤ c.mantissa ∧ c.mantissa ≤ 65535
  | .value (.number n) => n ≤ 65535
  | .value (.powerLevel n) => 1 ≤ n ∧ n ≤ 5
  | .validationError => True
  | .protocolError _ => True

/-- The invariant of the machine. -/
structure Inv (s : State) : Prop where
  constants : s.constants = fixedConstants
  status : LegalStatus s.status
  out : LegalOut s
  hostResult : LegalHostResult s.hostResult

/-- R26, R30, R45: all that an operation of the block leaves alone; it writes `STATUS` and `OUT` only. -/
def OnlyOutcomeChanges (s t : State) : Prop :=
  t.constants = s.constants ∧ t.op = s.op ∧ t.inp = s.inp ∧ t.time = s.time ∧
  t.busy = s.busy ∧ t.hostResult = s.hostResult ∧ t.pending = s.pending

/-- R26: all that a pseudo-instruction leaves alone; the `BUILD` it issues has its own request fields (`OP`,
`IN`), the block writes `STATUS` and `OUT`, and the host holds the result. -/
def OnlyTransactionChanges (s t : State) : Prop :=
  t.constants = s.constants ∧ t.time = s.time ∧ t.busy = s.busy ∧ t.pending = s.pending

/-- R105: the closed form of `encrypt`. -/
def closedEncrypt (encBlock : Block → Block) (iv : Block) (p : Bytes 32) : Bytes 32 :=
  let c0 := encBlock ((p.slice 0 16 (by omega)).xor iv)
  let c1 := encBlock ((p.slice 16 16 (by omega)).xor c0)
  c0.append c1

/-- R107: the closed form of `decrypt`. -/
def closedDecrypt (decBlock : Block → Block) (iv : Block) (c : Bytes 32) : Bytes 32 :=
  ((decBlock (c.slice 0 16 (by omega))).xor iv).append
    ((decBlock (c.slice 16 16 (by omega))).xor (c.slice 0 16 (by omega)))

/-- R124: the first plaintext block of a request. -/
def requestBlock0 (time : Time32) (secret : Bytes 16) : Block :=
  (be32Bytes time).append (secret.slice 0 12 (by omega))

/-- R124: the second plaintext block of a request. -/
def requestBlock1 (secret : Bytes 16) (command : Bytes 6) (check : Bytes 2) : Block :=
  (((secret.slice 12 4 (by omega)).append command).append check).append ⟨[0x04, 0x04, 0x04, 0x04], rfl⟩

/-- R124: the closed form of `buildPacket` under the constants and the time of a state. -/
def closedBuild (s : State) (command : Bytes 6) : Bytes 32 :=
  let c0 := blockEncrypt s.constants.key ((requestBlock0 s.time s.constants.secret).xor s.constants.iv)
  let c1 := blockEncrypt s.constants.key
    ((requestBlock1 s.constants.secret command (s.checksum command.bytes)).xor c0)
  c0.append c1

/-- R76: the instruction makes this command and the block builds its packet: `OP` is `BUILD`'s, `IN` is the command,
`STATUS` is `OK`, and `OUT` is the packet. That the builder and its `BUILD` are one step, and that the host holds the
six bytes in `hostResult`, is the model's reading (log entry 7). -/
def RunsBuildOf (i : Instr) (command : Bytes 6) (s : State) : Prop :=
  exec i s = .next
    { s with hostResult := .command command, op := 0x04, inp := command.bytes, status := 0x00
             out := (closedBuild s command).bytes }

/-- R64: byte `i` of the device-response window of a plaintext, `plaintext[20 + i]`. -/
def windowByte (p : Bytes 32) (i : Fin 7) : Byte := p.at (20 + i.val) (by omega)

/-- R95, R113, R126: two states in which the instruction completes with the same outcome. -/
def SameOutcome (i : Instr) (s s' : State) : Prop :=
  ∃ t t', exec i s = .next t ∧ exec i s' = .next t' ∧ t'.status = t.status ∧ t'.out = t.out

/-- R31: the machine with no operation in flight whose next request is `r`, before all that were pending. -/
def State.request (s : State) (r : Request) : State := { s with pending := r :: s.pending, busy := false }

/-- R69, R64: the rows of the opcode table whose unit is the block. -/
def BlockInstr (i : Instr) : Prop :=
  match i with
  | .csum => True
  | .enc => True
  | .dec => True
  | .build => True
  | .parse => True
  | .respError _ _ _ _ _ _ _ => True
  | .respRead _ _ _ _ _ _ => True
  | .respEcho _ _ _ _ _ _ _ => True
  | .readRegister _ => False
  | .readPower => False
  | .readPowerLevel => False
  | .readAmbientTemperature => False
  | .setPower _ => False
  | .setTemperature _ => False
  | .setPowerLevel _ => False
  | .setFan1Speed _ => False
  | .setFan2Speed _ => False
  | .setAutoMode _ => False
  | .setStandby _ => False

end Sys2Proof.Machine
end

