-- ==== Sys2Proof/Certificates/Slice0/Obligations.lean ====
section
/-! DEFINITION. The statements for the provers. -/

open Sys2Proof Sys2Proof.Machine

/-! ### Reset, constants, the interface -/

/-- R36: after reset the constants hold their values, `STATUS` is `0x00`, `OUT_LEN` is 0 and `OUT` has no bytes. -/
def Obligations.ResetLeavesConstantsAndNoOutput : Prop :=
  State.reset.constants.key = Bytes.ofFn Config.keyByte ∧
  State.reset.constants.iv = Bytes.ofFn Config.ivByte ∧
  State.reset.constants.secret = Bytes.ofFn Config.secretByte ∧
  State.reset.constants.highTable = highTableContents ∧
  State.reset.constants.lowTable = lowTableContents ∧
  State.reset.status = 0x00 ∧ State.reset.outLen = 0 ∧ State.reset.out = []

/-- R210, R211: a reset leaves the constants as they are, `STATUS = 0x00` and `OUT_LEN = 0`; in the middle of an
operation it abandons it with no output, and the operation never comes to an outcome ("[derived: from 10_state.md
rule R27]"). That the request fields and the host's side stay is the model's choice (log entry 8); the operation in
flight is log entry 24. -/
def Obligations.ResetRequestClearsTheOutcome : Prop :=
  (∀ s : State, step (s.request .reset) = .next { s with status := 0x00, out := [], busy := false }) ∧
  (∀ (s : State) (rest : List Request), s.busy = true → s.pending = .reset :: rest →
    step s = .next { s with pending := rest, status := 0x00, out := [], busy := false }) ∧
  (∀ (s : State) (op : Byte) (operand : List Byte) (time : Time32),
    ∃ t, step ((s.request .reset).request (.issue op operand time)) = .next t ∧
      t.busy = true ∧ t.status = s.status ∧ t.out = s.out ∧
      step t = .next { s with op := op, inp := operand, time := time, status := 0x00, out := [], busy := false })

/-- R211: with no operation in flight and no request the block waits and does nothing of its own accord, and so it does
after reset (log entries 4, 5 and 24). -/
def Obligations.BlockWithoutRequestDoesNothing : Prop :=
  (∀ s : State, s.busy = false → s.pending = [] → step s = .next s) ∧ step State.reset = .next State.reset

/-- The reset state meets the invariant; that the host holds nothing then is log entry 4. -/
def Obligations.ResetMeetsInvariant : Prop := Inv State.reset

/-- Every step that answers keeps the invariant: the constants are the fixed ones, `STATUS` is a code the block
produces, `OUT` is empty after an error and otherwise whole, a record on `OUT` is legal, and the host holds only
catalog commands and values in range. The length of a read record's data where `byteCount` is above 4 is decision D8
(log entry 16); what the host holds is the model's own field (log entry 4), and how a decoder comes to its value is log
entry 14. -/
def Obligations.EveryStepKeepsInvariant : Prop :=
  ∀ s t : State, Inv s → step s = .next t → Inv t

/-- R26: no operation, no error and no host action changes a byte of the constants. -/
def Obligations.NoStepChangesConstants : Prop :=
  ∀ s t : State, step s = .next t → t.constants = s.constants

/-- R14: the conversions between numbers and bytes, as numbers. -/
def Obligations.NumberConversionsAreBigEndian : Prop :=
  (∀ hi lo : Byte, (be16 hi lo).toNat = hi.toNat * 256 + lo.toNat) ∧
  (∀ v : Word16, (be16Bytes v).bytes.map BitVec.toNat = [v.toNat / 256, v.toNat % 256]) ∧
  (∀ v : Time32, (be32Bytes v).bytes.map BitVec.toNat =
    [v.toNat / 16777216 % 256, v.toNat / 65536 % 256, v.toNat / 256 % 256, v.toNat % 256])

/-! ### Requests and steps -/

/-- A step runs the instruction its request decodes to. An operation select stands on `OP` with the operand on `IN` and
the time on `TIME`; a catalog word and a window are the host's; an instruction called by name runs as named, with
its code on `OP` where it has one, on the bytes that stand on `IN` (that such a call presents no operand is the
model's choice, log entry 25). A table word placed by `withFetchWord` is run by the very next step (log entries 5
and 6). R54: an operation that is issued first and completed by the next step has the outcome it has in one step,
whatever request but a reset waits behind it (log entry 24); that it runs with the `TIME` of its issue is the model's
choice (log entry 26). -/
def Obligations.StepRunsTheDecodedInstruction : Prop :=
  (∀ (s : State) (op : Byte) (operand : List Byte) (time : Time32) (i : Instr), decode [op] = .ok i →
    step (s.request (.operation op operand time)) =
      exec i { s with op := op, inp := operand, time := time, busy := false }) ∧
  (∀ (s : State) (w : Bytes 6) (time : Time32) (i : Instr), decode w.bytes = .ok i →
    step (s.request (.catalogWord w time)) = exec i { s with time := time, busy := false }) ∧
  (∀ (s : State) (w : Bytes 7) (i : Instr), decode w.bytes = .ok i →
    step (s.request (.window w)) = exec i { s with busy := false }) ∧
  (∀ (s : State) (i : Instr) (time : Time32),
    step (s.request (.call i time)) = exec i { s with time := time, op := i.opCode?.getD s.op, busy := false }) ∧
  (∀ (s : State) (w : Nat) (i : Instr), decodeTableWord 8 w = some i →
    step (s.withFetchWord 8 w) = exec i { s with op := BitVec.ofNat 8 w, busy := false }) ∧
  (∀ (s : State) (w : Nat) (i : Instr), decodeTableWord 48 w = some i →
    step (s.withFetchWord 48 w) = exec i { s with busy := false }) ∧
  (∀ (s : State) (w : Nat) (i : Instr), decodeTableWord 56 w = some i →
    step (s.withFetchWord 56 w) = exec i { s with busy := false }) ∧
  (∀ (s : State) (op : Byte) (operand : List Byte) (time : Time32),
    step (s.request (.issue op operand time)) =
      .next { s with op := op, inp := operand, time := time, busy := true } ∧
    (s.pending.head? ≠ some .reset →
      step { s with op := op, inp := operand, time := time, busy := true } =
        step (s.request (.operation op operand time))))

/-- R74, R184: a reserved `OP` gives `ILLEGAL_OP` and no output, whatever the operand is. -/
def Obligations.ReservedOpReportsIllegalOp : Prop :=
  ∀ (s : State) (op : Byte) (operand : List Byte) (time : Time32),
    op ≠ 0x01 → op ≠ 0x02 → op ≠ 0x03 → op ≠ 0x04 → op ≠ 0x05 →
    step (s.request (.operation op operand time)) =
      .next { s with op := op, inp := operand, time := time, status := 0x03, out := [], busy := false }

/-- R112, R121, R131: a wrong operand length is rejected with `VALIDATION_ERROR`, no output, and nothing else. -/
def Obligations.WrongLengthReportsValidationError : Prop :=
  ∀ s : State,
    (s.inLen ≠ 32 → exec .enc s = .next { s with status := 0x01, out := [] }) ∧
    (s.inLen ≠ 32 → exec .dec s = .next { s with status := 0x01, out := [] }) ∧
    (s.inLen ≠ 6 → exec .build s = .next { s with status := 0x01, out := [] }) ∧
    (s.inLen ≠ 32 → exec .parse s = .next { s with status := 0x01, out := [] })

/-- R45, R60: each operation either writes its whole result or nothing. -/
def Obligations.OperationsAreAllOrNothing : Prop :=
  ∀ s : State,
    (∃ t, exec .csum s = .next t ∧ t.status = 0x00 ∧ t.outLen = 2) ∧
    (∃ t, exec .enc s = .next t ∧ (t.status = 0x00 ∧ t.outLen = 32 ∨ t.status = 0x01 ∧ t.outLen = 0)) ∧
    (∃ t, exec .dec s = .next t ∧ (t.status = 0x00 ∧ t.outLen = 32 ∨ t.status = 0x01 ∧ t.outLen = 0)) ∧
    (∃ t, exec .build s = .next t ∧ (t.status = 0x00 ∧ t.outLen = 32 ∨ t.status = 0x01 ∧ t.outLen = 0)) ∧
    (∃ t, exec .parse s = .next t ∧ (t.status = 0x00 ∧ t.outLen = 9 ∨ t.status = 0x01 ∧ t.outLen = 0))

/-- R183, R216: every transaction ends, whatever its `OP`, operand and time, with a code the block produces. -/
def Obligations.EveryTransactionEnds : Prop :=
  ∀ (s : State) (op : Byte) (operand : List Byte) (time : Time32),
    ∃ t, step (s.request (.operation op operand time)) = .next t ∧ LegalStatus t.status ∧ t.pending = s.pending

/-- R27: the outcome of a transaction depends on the constants and on the request alone. -/
def Obligations.TransactionOutcomeIgnoresHistory : Prop :=
  ∀ (s s' : State) (op : Byte) (operand : List Byte) (time : Time32), s'.constants = s.constants →
    ∃ t t', step (s.request (.operation op operand time)) = .next t ∧
      step (s'.request (.operation op operand time)) = .next t' ∧ t'.status = t.status ∧ t'.out = t.out

/-- R186: after any transaction, the failed ones among them, the next one is performed exactly as if the first had
never been issued. The spec's inference, "[derived: from 10_state.md rule R27]". -/
def Obligations.TransactionLeavesNoTrace : Prop :=
  ∀ (s : State) (op op' : Byte) (operand operand' : List Byte) (time time' : Time32),
    ∃ t, step ((s.request (.operation op' operand' time')).request (.operation op operand time)) = .next t ∧
      step t = step (s.request (.operation op' operand' time'))

/-- Which requests can stop the machine: a decoder where `OUT` holds no record (a fault), a decoder on a record of
fewer than two data bytes, a word that is no catalog command, and `setTemperature` called out of its range
(refusals). An operation in flight never stops it. These stops are log entries 13, 14 and 23. -/
def Obligations.OnlyTheseRequestsStop : Prop :=
  ∀ s : State, Inv s →
    (∀ f, step s = .fault f → s.busy = false ∧ ∃ d rest, s.pending = .decoder d :: rest ∧ s.outLen ≠ 9) ∧
    (∀ r, step s = .refused r → s.busy = false ∧
      ((∃ d rest, s.pending = .decoder d :: rest ∧ s.outLen = 9) ∨
      (∃ w time rest e, s.pending = .catalogWord w time :: rest ∧ decode w.bytes = .error e) ∨
      (∃ c time rest, s.pending = .call (.setTemperature c) time :: rest)))

/-! ### Frames -/

/-- R26, R30: `CSUM`, `ENC`, `DEC`, `BUILD` and `PARSE` write `STATUS` and `OUT` and nothing else. That the host's
result and its pending requests stay is the model's choice (log entry 4), and so is the frame of the three
sub-formats of the window, presented alone with `OP` and `IN` as they were (log entry 6). -/
def Obligations.BlockInstructionsWriteOnlyTheOutcome : Prop :=
  ∀ (i : Instr) (s t : State), BlockInstr i → exec i s = .next t → OnlyOutcomeChanges s t

/-- R76: a command builder leaves the constants, `TIME` and the pending requests alone; it either issues a `BUILD` with
its six bytes, or, its range check failing, changes nothing but the host's result (log entry 7). -/
def Obligations.BuildersWriteOnlyTheirTransaction : Prop :=
  ∀ (i : Instr) (s t : State), ¬ BlockInstr i → exec i s = .next t →
    OnlyTransactionChanges s t ∧
    ((∃ c : Bytes 6, t.hostResult = .command c ∧ t.op = 0x04 ∧ t.inp = c.bytes ∧ t.status = 0x00 ∧ t.outLen = 32) ∨
      t = { s with hostResult := .validationError })

/-- R95, R114, R126, R138: what each operation reads. `CSUM` reads its operand and the tables; `ENC` and `DEC` the
operand, `KEY` and `IV`; `PARSE` the operand and `KEY`; `BUILD` the operand, `TIME` and all five constants. That
`PARSE` does not read `IV` is the spec's inference, "[derived: from rule R130 and 41_cipher.md rule R107]". -/
def Obligations.EachOperationReadsOnlyItsInputs : Prop :=
  ∀ s s' : State, s'.inp = s.inp →
    (s'.constants.highTable = s.constants.highTable → s'.constants.lowTable = s.constants.lowTable →
      SameOutcome .csum s s') ∧
    (s'.constants.key = s.constants.key → s'.constants.iv = s.constants.iv →
      SameOutcome .enc s s' ∧ SameOutcome .dec s s') ∧
    (s'.constants.key = s.constants.key → SameOutcome .parse s s') ∧
    (s'.constants = s.constants → s'.time = s.time → SameOutcome .build s s')

/-! ### Checksum Engine -/

/-- R90: `CSUM`. -/
def Obligations.CsumRunsTheTableForm : Prop :=
  decode [0x01] = .ok .csum ∧
  (∀ s : State, exec .csum s = .next { s with
    status := 0x00
    out :=
      let acc := s.inp.foldl (fun (a : Byte × Byte) b =>
        (a.2 ^^^ tableRead s.constants.highTable (a.1 ^^^ b), tableRead s.constants.lowTable (a.1 ^^^ b))) (0xFF, 0xFF)
      [acc.1, acc.2] }) ∧
  (checksum highTableContents lowTableContents []).bytes = [0xFF, 0xFF] ∧
  (checksum highTableContents lowTableContents [0xFF, 0xFF]).bytes = [0x00, 0x00] ∧
  (checksum highTableContents lowTableContents [0x00]).bytes = [0xBF, 0x40] ∧
  (checksum highTableContents lowTableContents [0x01, 0x06, 0x03, 0x1C, 0x00, 0x01]).bytes = [0x89, 0x88]

/-- R24, R25: the contents of the tables. The spec's inference, "[derived: from rule R93]". -/
def Obligations.TablesAreTheSplitCrcTable : Prop :=
  (∀ i : Byte, tableRead highTableContents i = loByte (crcTableEntry i)) ∧
  (∀ i : Byte, tableRead lowTableContents i = hiByte (crcTableEntry i)) ∧
  (∀ i : Byte, tableRead highTableContents i ∈ ([0x00, 0x01, 0x40, 0x41, 0x80, 0x81, 0xC0, 0xC1] : List Byte)) ∧
  Function.Bijective (tableRead lowTableContents)

/-- R93: one byte step of the bit-shifting form through `T`; the split is the tables', and one-byte inputs already
force it; the opposite split fails on `0x31`. The spec's inference, "[derived: from rules R90, R91 and R92]". -/
def Obligations.OneByteInputsForceTheTables : Prop :=
  (∀ (crc : Word16) (b : Byte),
    crcByte crc b = (crc >>> 8) ^^^ crcTableEntry (loByte (crc ^^^ b.zeroExtend 16))) ∧
  (∀ i : Byte, tableRead highTableContents i = loByte (crcTableEntry i) ∧
    tableRead lowTableContents i = hiByte (crcTableEntry i)) ∧
  (∀ hT lT : Bytes 256, (∀ b : Byte, checksum hT lT [b] = checksumBitwise [b]) →
    hT = highTableContents ∧ lT = lowTableContents) ∧
  checksum lowTableContents highTableContents [0x31] ≠ checksumBitwise [0x31] ∧
  ([0, 1, 2, 3, 4, 5, 6, 7, 255] : List Byte).map crcTableEntry =
    [0x0000, 0xC0C1, 0xC181, 0x0140, 0xC301, 0x03C0, 0x0280, 0xC241, 0x4040]

/-- R92: the table-driven checksum equals the bit-shifting one on every byte sequence, its result has length 2, and no
other contents of the tables have that property. -/
def Obligations.ChecksumAgreesWithBitShiftingForm : Prop :=
  (∀ d : List Byte, (checksum highTableContents lowTableContents d).bytes.length = 2 ∧
    checksum highTableContents lowTableContents d = checksumBitwise d) ∧
  (∀ hT lT : Bytes 256, hT ≠ highTableContents ∨ lT ≠ lowTableContents →
    ∃ d : List Byte, checksum hT lT d ≠ checksumBitwise d)

/-- R91, R92 for the machine: in every state of the invariant `CSUM` returns the bit-shifting CRC of its operand. -/
def Obligations.CsumReturnsTheBitShiftingCrc : Prop :=
  ∀ s : State, Inv s →
    exec .csum s = .next { s with status := 0x00, out := (checksumBitwise s.inp).bytes }

/-- V-C7: appending the result to the input gives a zero checksum. The spec's inference, "[derived: from rule R91 by
the linearity of the shift register]". -/
def Obligations.ChecksumOfDataAndChecksumIsZero : Prop :=
  ∀ d : List Byte,
    (checksum highTableContents lowTableContents
      (d ++ (checksum highTableContents lowTableContents d).bytes)).bytes = [0x00, 0x00]

/-! ### Symmetric Packet Cipher -/

/-- R101: the contract of `BLOCK_CIPHER`. -/
def Obligations.BlockCipherDirectionsInvertEachOther : Prop :=
  ∀ (key : Bytes 16) (x : Block),
    blockDecrypt key (blockEncrypt key x) = x ∧ blockEncrypt key (blockDecrypt key x) = x

/-- R103: CBC decryption inverts CBC encryption, for every number of blocks, every key, every chaining input. -/
def Obligations.CbcDecryptInvertsCbcEncrypt : Prop :=
  ∀ (key : Bytes 16) (n : Nat) (iv : Block) (p : Bytes (16 * n)),
    cbcDecrypt (blockDecrypt key) n iv (cbcEncrypt (blockEncrypt key) n iv p) = p

/-- R105: the closed form of `ENC`; the dropped third block is what `DEC` rebuilds. The spec's inference, "[derived:
from rules R102 and R104]". -/
def Obligations.EncryptHasItsClosedForm : Prop :=
  ∀ (encBlock : Block → Block) (iv : Block) (p : Bytes 32),
    encryptWith encBlock iv p = closedEncrypt encBlock iv p ∧
    (encrypt48 encBlock iv p).block 2 (by omega) =
      encBlock ((Bytes.replicate 16 0x10).xor ((closedEncrypt encBlock iv p).slice 16 16 (by omega))) ∧
    (encrypt48 encBlock iv p).block 2 (by omega) = encryptedPad encBlock (encryptWith encBlock iv p)

/-- R107: the closed form of `DEC`; the dropped third block is the pad for every ciphertext. The spec's inference,
"[derived: from rules R103 and R106]" and "[derived: from rules R101 and R106]". -/
def Obligations.DecryptHasItsClosedForm : Prop :=
  ∀ (key : Bytes 16) (iv : Block) (c : Bytes 32),
    decrypt key iv c = closedDecrypt (blockDecrypt key) iv c ∧
    ((decrypt48 (blockEncrypt key) (blockDecrypt key) iv c).block 2 (by omega)).bytes =
      List.replicate 16 (0x10 : Byte)

/-- R108: the round-trip law. -/
def Obligations.DecryptInvertsEncrypt : Prop :=
  ∀ (key : Bytes 16) (iv : Block) (p : Bytes 32), decrypt key iv (encrypt key iv p) = p

/-- R109: the other direction, and the two are mutually inverse bijections. The spec's inference, "[derived: from rules
R101, R105 and R107]". -/
def Obligations.EncryptAndDecryptAreInverseBijections : Prop :=
  ∀ (key : Bytes 16) (iv : Block),
    (∀ c : Bytes 32, encrypt key iv (decrypt key iv c) = c) ∧
    (∀ p : Bytes 32, decrypt key iv (encrypt key iv p) = p) ∧
    Function.Bijective (encrypt key iv) ∧ Function.Bijective (decrypt key iv)

/-- R104, R105: `ENC` on 32 bytes. The closed form is the spec's inference, "[derived: from rules R102 and R104]". -/
def Obligations.EncReturnsTheClosedForm : Prop :=
  ∀ (s : State) (p : Bytes 32), s.inp = p.bytes →
    exec .enc s = .next { s with
      status := 0x00
      out := (closedEncrypt (blockEncrypt s.constants.key) s.constants.iv p).bytes }

/-- R106, R107, R111: `DEC` on any 32 bytes. The closed form is the spec's inference, "[derived: from rules R103 and
R106]". -/
def Obligations.DecReturnsTheClosedForm : Prop :=
  ∀ (s : State) (c : Bytes 32), s.inp = c.bytes →
    exec .dec s = .next { s with
      status := 0x00
      out := (closedDecrypt (blockDecrypt s.constants.key) s.constants.iv c).bytes }

/-- R108 for the machine: `DEC` of what `ENC` returned gives the plaintext back. -/
def Obligations.DecOfEncGivesThePlaintextBack : Prop :=
  ∀ (s : State) (p : Bytes 32), s.inp = p.bytes →
    ∃ t u, exec .enc s = .next t ∧ exec .dec { t with inp := t.out } = .next u ∧
      u.status = 0x00 ∧ u.out = p.bytes

/-! ### Packet Builder -/

/-- R62: the layout of the request plaintext, field by field and block by block. The split into blocks is the spec's
inference, "[derived: from rule R43 of 20_memory.md]". -/
def Obligations.RequestPlaintextLayout : Prop :=
  ∀ (time : Time32) (secret : Bytes 16) (command : Bytes 6) (check : Bytes 2),
    let p := requestPlaintext time secret command check
    p.slice 0 4 (by omega) = be32Bytes time ∧
    p.slice 4 16 (by omega) = secret ∧
    p.slice 20 6 (by omega) = command ∧
    p.slice 26 2 (by omega) = check ∧
    (p.slice 28 4 (by omega)).bytes = [0x04, 0x04, 0x04, 0x04] ∧
    p.block 0 (by omega) = requestBlock0 time secret ∧
    p.block 1 (by omega) = requestBlock1 secret command check

/-- R124: `BUILD` on six bytes, whatever they are; the first block does not depend on the command. The spec's
inference, "[derived: from rule R120 and 41_cipher.md rule R105]". -/
def Obligations.BuildReturnsTheClosedForm : Prop :=
  (∀ (s : State) (command : Bytes 6), s.inp = command.bytes →
    exec .build s = .next { s with status := 0x00, out := (closedBuild s command).bytes }) ∧
  (∀ (s : State) (command command' : Bytes 6),
    (closedBuild s command).block 0 (by omega) = (closedBuild s command').block 0 (by omega))

/-- R125: `DEC` of what `BUILD` returned gives the whole envelope back, so the packet determines the time and the
command; `PARSE` of it does not fail and reads the command and the low checksum byte. The spec's inference,
"[derived: from rule R120 and 41_cipher.md rule R108]". In the record, the cut of the data where `byteCount` is
above 4 is decision D8 (log entry 16). -/
def Obligations.BuiltPacketDecryptsToItsEnvelope : Prop :=
  (∀ (s : State) (command : Bytes 6), s.inp = command.bytes →
    ∃ t u v, exec .build s = .next t ∧ t.status = 0x00 ∧
      exec .dec { t with inp := t.out } = .next u ∧ u.status = 0x00 ∧
      u.out = (be32Bytes s.time).bytes ++ s.constants.secret.bytes ++ command.bytes ++
        (s.checksum command.bytes).bytes ++ [0x04, 0x04, 0x04, 0x04] ∧
      exec .parse { t with inp := t.out } = .next v ∧ v.status = 0x00 ∧
      v.out = (serialise (classify (command.append ((s.checksum command.bytes).slice 0 1 (by omega))))).bytes) ∧
  (∀ (s s' : State) (command command' : Bytes 6), s'.constants = s.constants →
    s'.buildPacket command' = s.buildPacket command → s'.time = s.time ∧ command' = command)

/-- R217: packets built within one second have the same first sixteen bytes, whatever the commands; the same command
within one second gives the same packet. The spec's inference, "[derived: from 41_cipher.md rule R113 and
42_packet_builder.md rule R124]". -/
def Obligations.SameSecondSameFirstBlock : Prop :=
  ∀ (s s' : State) (command command' : Bytes 6), s.inp = command.bytes → s'.inp = command'.bytes →
    s'.constants = s.constants → s'.time = s.time →
    ∃ t t', exec .build s = .next t ∧ exec .build s' = .next t' ∧ t'.out.take 16 = t.out.take 16 ∧
      (command' = command → t'.out = t.out)

/-! ### Response Parser -/

/-- R130, R132 to R135, R66: `PARSE` on any 32 bytes, class by class, byte by byte. The cut of the data where
`byteCount` is above 4 is decision D8 of the spec (R136; log entry 16). The window is read through the closed form
of `DEC`, the spec's inference in R107, "[derived: from rules R103 and R106]". -/
def Obligations.ParseClassifiesTheWindow : Prop :=
  ∀ (s : State) (c : Bytes 32), s.inp = c.bytes →
    let w := windowByte (closedDecrypt (blockDecrypt s.constants.key) s.constants.iv c)
    ((w 1).getLsbD 7 = true → exec .parse s = .next { s with
      status := 0x00, out := [w 0, w 1 &&& 0x7F, 0x01, 0x00, 0x01, w 2, 0x00, 0x00, 0x00] }) ∧
    (w 1 = 0x03 → exec .parse s = .next { s with
      status := 0x00
      out := [w 0, 0x03, 0x02, w 2, BitVec.ofNat 8 (min (w 2).toNat 4),
        if 0 < (w 2).toNat then w 3 else 0x00, if 1 < (w 2).toNat then w 4 else 0x00,
        if 2 < (w 2).toNat then w 5 else 0x00, if 3 < (w 2).toNat then w 6 else 0x00] }) ∧
    ((w 1).getLsbD 7 = false → w 1 ≠ 0x03 → exec .parse s = .next { s with
      status := 0x00, out := [w 0, w 1, 0x00, 0x00, 0x04, w 2, w 3, w 4, w 5] })

/-- R138: the window in closed form; the record depends on the window only, and `IV` has no influence. The spec's
inference, "[derived: from rule R130 and 41_cipher.md rule R107]". -/
def Obligations.ParseDependsOnTheWindowOnly : Prop :=
  (∀ (s : State) (c : Bytes 32),
    deviceResponseWindow (s.decrypt c) =
      ((blockDecrypt s.constants.key (c.slice 16 16 (by omega))).xor (c.slice 0 16 (by omega))).slice 4 7
        (by omega)) ∧
  (∀ (s s' : State) (c c' : Bytes 32), s.inp = c.bytes → s'.inp = c'.bytes →
    deviceResponseWindow (s'.decrypt c') = deviceResponseWindow (s.decrypt c) → SameOutcome .parse s s') ∧
  (∀ (s : State) (iv : Block), SameOutcome .parse s { s with constants := { s.constants with iv := iv } })

/-- R137: on the encryption of any plaintext, whatever its timestamp, secret, checksum and marker, `PARSE` succeeds and
returns the classification of `plaintext[20:27]`. In the record, the cut of the data where `byteCount` is above 4 is
decision D8 (log entry 16). -/
def Obligations.ParseAcceptsEveryPlaintext : Prop :=
  ∀ (s : State) (p : Bytes 32), s.inp = (s.encrypt p).bytes →
    exec .parse s = .next { s with
      status := 0x00, out := (serialise (classify (p.slice 20 7 (by omega)))).bytes }

/-- R139: the record's invariant on every window. -/
def Obligations.RecordInvariantOfEveryWindow : Prop :=
  ∀ dr : Bytes 7,
    let r := classify dr
    let raw := dr.at 1 (by omega)
    (r.isError = true ↔ raw.getLsbD 7 = true) ∧
    (r.isError = true → r.functionCode = raw &&& 0x7F ∧ r.data = [dr.at 2 (by omega)]) ∧
    r.functionCode.toNat ≤ 0x7F ∧ r.functionCode.getLsbD 7 = false ∧
    raw.toNat = r.functionCode.toNat + (if r.isError then 0x80 else 0)

/-- R65: the consequences the spec lists for the record. The spec's inference, "[derived: from 43_response_parser.md
rules R133 to R136]"; the length of the data where `byteCount` is above 4 is decision D8 (log entry 16). -/
def Obligations.RecordOfEveryWindowIsLegal : Prop :=
  ∀ dr : Bytes 7, (classify dr).Legal ∧ (classify dr).data.length ≤ 4

/-- R66: the nine bytes of a record and the flags byte of each class. That the record is read back from them rests on
decision D6, "9 bytes hold every field without loss", and on the model's reading of `OUT` (log entry 14). -/
def Obligations.SerialisedRecordReadsBack : Prop :=
  (∀ r : DeviceResponse, r.data.length ≤ 4 →
    (serialise r).bytes =
      [r.slaveAddress, r.functionCode,
        (if r.isError then 0x01 else 0x00) + (if r.byteCount.isSome then 0x02 else 0x00),
        (match r.byteCount with | some n => n | none => 0x00), BitVec.ofNat 8 r.data.length] ++
      r.data ++ List.replicate (4 - r.data.length) 0x00) ∧
  (∀ r : DeviceResponse, r.data.length ≤ 4 → deserialise (serialise r).bytes = some r) ∧
  (∀ a c e n d0 d1 d2 d3 : Byte,
    (serialise (errorRecord a c e)).at 2 (by omega) = 0x01 ∧
    (serialise (readRecord a n d0 d1 d2 d3)).at 2 (by omega) = 0x02 ∧
    (serialise (echoRecord a c d0 d1 d2 d3)).at 2 (by omega) = 0x00)

/-- R133 to R135: the three sub-formats of the window, each completing with its record on `OUT`. That a window can be
presented by itself is the model's choice (log entry 6). The cut of the data where the count is above 4 is decision
D8 (R136; log entry 16). That an echo term with the code `0x03`, to which no word decodes, acts as the read reply
of its bytes is log entry 21. -/
def Obligations.WindowInstructionsReturnTheirRecord : Prop :=
  (∀ (s : State) (a : Byte) (f : BitVec 7) (e x3 x4 x5 x6 : Byte),
    exec (.respError a f e x3 x4 x5 x6) s = .next { s with
      status := 0x00, out := [a, f.zeroExtend 8, 0x01, 0x00, 0x01, e, 0x00, 0x00, 0x00] }) ∧
  (∀ (s : State) (a n d0 d1 d2 d3 : Byte),
    exec (.respRead a n d0 d1 d2 d3) s = .next { s with
      status := 0x00
      out := [a, 0x03, 0x02, n, BitVec.ofNat 8 (min n.toNat 4),
        if 0 < n.toNat then d0 else 0x00, if 1 < n.toNat then d1 else 0x00,
        if 2 < n.toNat then d2 else 0x00, if 3 < n.toNat then d3 else 0x00] }) ∧
  (∀ (s : State) (a : Byte) (f : BitVec 7) (d0 d1 d2 d3 x6 : Byte), f ≠ 0x03#7 →
    exec (.respEcho a f d0 d1 d2 d3 x6) s = .next { s with
      status := 0x00, out := [a, f.zeroExtend 8, 0x00, 0x00, 0x04, d0, d1, d2, d3] }) ∧
  (∀ (s : State) (a d0 d1 d2 d3 x6 : Byte),
    exec (.respEcho a 0x03#7 d0 d1 d2 d3 x6) s = exec (.respRead a d0 d1 d2 d3 x6) s)

/-- R64, R130: `PARSE` has the outcome of the sub-format its window decodes to. That a sub-format is presented alone, with
an effect of its own on `STATUS` and `OUT`, is the model's choice (log entry 6). -/
def Obligations.ParseRunsTheSubFormatOfItsWindow : Prop :=
  ∀ (s : State) (c : Bytes 32), s.inp = c.bytes →
    ∃ i, decode (deviceResponseWindow (s.decrypt c)).bytes = .ok i ∧ exec .parse s = exec i s

/-- R141: `PARSE` of a built read command reads a read reply with `byteCount` the register's high byte; of a built
write command, an echo of register and value. The spec's inference, "[derived: from rule R130 and
42_packet_builder.md rule R120]"; the cut of the data where the high byte is above 4 is decision D8 (log entry 16).
-/
def Obligations.ParseOfABuiltCommand : Prop :=
  (∀ (s : State) (rh rl : Byte), s.inp = [0x01, 0x03, rh, rl, 0x00, 0x01] →
    ∃ t u, exec .build s = .next t ∧ exec .parse { t with inp := t.out } = .next u ∧ u.status = 0x00 ∧
      deserialise u.out = some
        { slaveAddress := 0x01, functionCode := 0x03, byteCount := some rh
          data := [rl, 0x00, 0x01, (s.checksum s.inp).at 0 (by omega)].take rh.toNat, isError := false }) ∧
  (∀ (s : State) (rh rl vh vl : Byte), s.inp = [0x01, 0x06, rh, rl, vh, vl] →
    ∃ t u, exec .build s = .next t ∧ exec .parse { t with inp := t.out } = .next u ∧ u.status = 0x00 ∧
      deserialise u.out = some
        { slaveAddress := 0x01, functionCode := 0x06, byteCount := none
          data := [rh, rl, vh, vl], isError := false })

/-! ### Command catalog -/

/-- R150, R152, R157, R158: the six bytes of the builders without a check. -/
def Obligations.UncheckedBuildersMakeTheSpecBytes : Prop :=
  (∀ reg : Word16, ((readCommand reg).bytes.map BitVec.toNat) = [1, 3, reg.toNat / 256, reg.toNat % 256, 0, 1]) ∧
  (setPowerCommand true).bytes = [0x01, 0x06, 0x03, 0x1C, 0x00, 0x01] ∧
  (setPowerCommand false).bytes = [0x01, 0x06, 0x03, 0x1C, 0x00, 0x00] ∧
  (setAutoModeCommand true).bytes = [0x01, 0x06, 0x04, 0x43, 0x00, 0x01] ∧
  (setAutoModeCommand false).bytes = [0x01, 0x06, 0x04, 0x43, 0x00, 0x00] ∧
  (setStandbyCommand true).bytes = [0x01, 0x06, 0x04, 0x44, 0x00, 0x01] ∧
  (setStandbyCommand false).bytes = [0x01, 0x06, 0x04, 0x44, 0x00, 0x00]

/-- R159 to R164: the decoders as functions of a record: `ProtocolError` with `data[0]` on an error reply, else the
value of the first two data bytes, and no meaning on a shorter record. -/
def Obligations.DecodersAsFunctionsOfTheRecord : Prop :=
  ∀ r : DeviceResponse,
    (∀ (d : ValueDecoder) (code : Byte), r.isError = true → r.data = [code] →
      decodeRecord d r = some (.protocolError code)) ∧
    (∀ (hi lo : Byte) (more : List Byte), r.isError = false → r.data = hi :: lo :: more →
      decodeRecord .boolean r = some (.value (.boolean (decide (lo.toNat = 1)))) ∧
      decodeRecord .temperature r =
        some (.value (.temperature ⟨((hi.toNat * 256 + lo.toNat : Nat) : Int), 1⟩)) ∧
      decodeRecord .number r = some (.value (.number (hi.toNat * 256 + lo.toNat))) ∧
      decodeRecord .powerLevel r = some (.value (.powerLevel (min (max lo.toNat 1) 5)))) ∧
    (∀ d : ValueDecoder, r.isError = false → r.data.length < 2 → decodeRecord d r = none)

/-- R150: `read(register)`, for every 16-bit register (log entry 7). -/
def Obligations.ReadRegisterBuildsItsCommand : Prop :=
  ∀ (s : State) (reg : Word16),
    RunsBuildOf (.readRegister reg) ⟨[0x01, 0x03, hiByte reg, loByte reg, 0x00, 0x01], rfl⟩ s

/-- R151: the named reads and their registers (log entry 7). -/
def Obligations.NamedReadsUseTheirRegisters : Prop :=
  (∀ s : State,
    RunsBuildOf .readPower ⟨[0x01, 0x03, 0x05, 0x29, 0x00, 0x01], rfl⟩ s ∧
    RunsBuildOf .readPowerLevel ⟨[0x01, 0x03, 0x05, 0x29, 0x00, 0x01], rfl⟩ s ∧
    RunsBuildOf .readAmbientTemperature ⟨[0x01, 0x03, 0x05, 0x25, 0x00, 0x01], rfl⟩ s) ∧
  (readTelemetry .power).bytes = [0x01, 0x03, 0x05, 0x29, 0x00, 0x01] ∧
  (readTelemetry .powerLevel).bytes = [0x01, 0x03, 0x05, 0x29, 0x00, 0x01] ∧
  (readTelemetry .ambientTemperature).bytes = [0x01, 0x03, 0x05, 0x25, 0x00, 0x01]

/-- R152, R157, R158: the builders with a boolean argument (log entry 7). -/
def Obligations.SwitchBuildersMakeTheirCommand : Prop :=
  ∀ s : State,
    RunsBuildOf (.setPower true) ⟨[0x01, 0x06, 0x03, 0x1C, 0x00, 0x01], rfl⟩ s ∧
    RunsBuildOf (.setPower false) ⟨[0x01, 0x06, 0x03, 0x1C, 0x00, 0x00], rfl⟩ s ∧
    RunsBuildOf (.setAutoMode true) ⟨[0x01, 0x06, 0x04, 0x43, 0x00, 0x01], rfl⟩ s ∧
    RunsBuildOf (.setAutoMode false) ⟨[0x01, 0x06, 0x04, 0x43, 0x00, 0x00], rfl⟩ s ∧
    RunsBuildOf (.setStandby true) ⟨[0x01, 0x06, 0x04, 0x44, 0x00, 0x01], rfl⟩ s ∧
    RunsBuildOf (.setStandby false) ⟨[0x01, 0x06, 0x04, 0x44, 0x00, 0x00], rfl⟩ s

/-- R153: `setTemperature`. `v` is the integer nearest to `celsius * 10`, where `celsius` is `mantissa / 10 ^ places`;
outside 0..65535 the call is refused. At a tie between `v` and `v + 1`, wherever it lies, one of the two is taken,
the same one for every call with that tie, as the open parameter `ROUND_TIES` says, and the range is tested on the
one taken (log entries 7, 13, 15). -/
def Obligations.SetTemperatureWritesTheNearestTenth : Prop :=
  (∀ (s : State) (c : Decimal) (v : Int),
    2 * |c.mantissa * 10 - v * 10 ^ c.places| < 10 ^ c.places →
    (0 ≤ v ∧ v ≤ 65535 → RunsBuildOf (.setTemperature c)
      ⟨[0x01, 0x06, 0x05, 0x25, BitVec.ofInt 8 (v / 256), BitVec.ofInt 8 (v % 256)], rfl⟩ s) ∧
    (¬ (0 ≤ v ∧ v ≤ 65535) → exec (.setTemperature c) s = .refused .temperatureOutOfRange)) ∧
  (∀ v : Int, ∃ taken : Int, (taken = v ∨ taken = v + 1) ∧ ∀ (s : State) (c : Decimal),
    2 * (c.mantissa * 10 - v * 10 ^ c.places) = 10 ^ c.places →
    (0 ≤ taken ∧ taken ≤ 65535 → RunsBuildOf (.setTemperature c)
      ⟨[0x01, 0x06, 0x05, 0x25, BitVec.ofInt 8 (taken / 256), BitVec.ofInt 8 (taken % 256)], rfl⟩ s) ∧
    (¬ (0 ≤ taken ∧ taken ≤ 65535) → exec (.setTemperature c) s = .refused .temperatureOutOfRange)) ∧
  (∀ s : State, RunsBuildOf (.setTemperature ⟨215, 1⟩) ⟨[0x01, 0x06, 0x05, 0x25, 0x00, 0xD7], rfl⟩ s)

/-- R154, R155, R156: the builders with a range check, on every integer; a failed check is reported on the host and the
block is untouched (log entry 7). That the value of `setFan1Speed` is `speed` itself is the spec's inference,
"[derived: by the pattern ...]" in R155. -/
def Obligations.RangedBuildersCheckTheirArgument : Prop :=
  ∀ (s : State) (n : Int),
    (1 ≤ n ∧ n ≤ 5 → RunsBuildOf (.setPowerLevel n) ⟨[0x01, 0x06, 0x04, 0x40, 0x00, BitVec.ofInt 8 n], rfl⟩ s) ∧
    (n < 1 ∨ 5 < n → exec (.setPowerLevel n) s = .next { s with hostResult := .validationError }) ∧
    (0 ≤ n ∧ n ≤ 5 → RunsBuildOf (.setFan1Speed n) ⟨[0x01, 0x06, 0x05, 0x4B, 0x00, BitVec.ofInt 8 n], rfl⟩ s) ∧
    (n < 0 ∨ 5 < n → exec (.setFan1Speed n) s = .next { s with hostResult := .validationError }) ∧
    (0 ≤ n ∧ n ≤ 5 → RunsBuildOf (.setFan2Speed n) ⟨[0x01, 0x06, 0x05, 0x4D, 0x00, BitVec.ofInt 8 n], rfl⟩ s) ∧
    (n < 0 ∨ 5 < n → exec (.setFan2Speed n) s = .next { s with hostResult := .validationError })

/-! ### Value decoders -/

/-- R159, R182: on an error reply every decoder raises `ProtocolError` with the exception code. That the host reads the
record from `OUT` and holds the outcome in `hostResult` is the model's choice (log entry 14). -/
def Obligations.DecodersRaiseProtocolError : Prop :=
  ∀ (s : State) (d : ValueDecoder) (r : DeviceResponse) (code : Byte),
    s.out = (serialise r).bytes → r.isError = true → r.data = [code] →
    step (s.request (.decoder d)) = .next { s with busy := false, hostResult := .protocolError code }

/-- R160 to R163, R165: the values of the four decoders on the first two data bytes of a reply that is no error, a
write echo included; the record is the one on `OUT` (log entry 14). -/
def Obligations.DecodersReadTheFirstTwoBytes : Prop :=
  ∀ (s : State) (r : DeviceResponse) (hi lo : Byte) (more : List Byte),
    s.out = (serialise r).bytes → r.isError = false → r.data = hi :: lo :: more → more.length ≤ 2 →
    step (s.request (.decoder .boolean)) =
      .next { s with busy := false, hostResult := .value (.boolean (decide (lo.toNat = 1))) } ∧
    step (s.request (.decoder .temperature)) =
      .next { s with busy := false, hostResult := .value (.temperature ⟨((hi.toNat * 256 + lo.toNat : Nat) : Int), 1⟩) } ∧
    step (s.request (.decoder .number)) =
      .next { s with busy := false, hostResult := .value (.number (hi.toNat * 256 + lo.toNat)) } ∧
    step (s.request (.decoder .powerLevel)) =
      .next { s with busy := false, hostResult := .value (.powerLevel
        (if lo.toNat < 1 then 1 else if 5 < lo.toNat then 5 else lo.toNat)) }

/-- R164: a decoder on a reply with fewer than two data bytes and no error is refused (log entry 14). -/
def Obligations.DecodersRefuseShortRecords : Prop :=
  ∀ (s : State) (d : ValueDecoder) (r : DeviceResponse),
    s.out = (serialise r).bytes → r.isError = false → r.data.length < 2 →
    step (s.request (.decoder d)) = .refused .shortRecord

/-! ### Encodings -/

/-- Words written out from R69, R64, R71 and R72. The name given to `01 03 05 25 00 01`, the word of `read(0x0525)` as
well, is log entry 11. -/
def Obligations.WordsDecodeToTheirInstruction : Prop :=
  decode [0x02] = .ok .enc ∧ decode [0x05] = .ok .parse ∧ decode [0x07] = .error (.reservedOp 0x07) ∧
  decode [0x01, 0x83, 0x02, 0x00, 0x00, 0x00, 0x00] = .ok (.respError 0x01 0x03 0x02 0x00 0x00 0x00 0x00) ∧
  decode [0x01, 0x03, 0x02, 0x00, 0xD7, 0x00, 0x00] = .ok (.respRead 0x01 0x02 0x00 0xD7 0x00 0x00) ∧
  decode [0x01, 0x06, 0x03, 0x1C, 0x00, 0x01, 0x00] = .ok (.respEcho 0x01 0x06 0x03 0x1C 0x00 0x01 0x00) ∧
  decode [0x01, 0x03, 0x05, 0x25, 0x00, 0x01] = .ok .readAmbientTemperature ∧
  decode [0x01, 0x06, 0x03, 0x1C, 0x00, 0x01] = .ok (.setPower true) ∧
  decode [0x01, 0x06, 0x05, 0x25, 0x00, 0xD7] = .ok (.setTemperature ⟨215, 1⟩)

/-- Every well-formed instruction is read back from its word; of the rows that share one word (R151) the decoder names
the first (log entry 11). The values of the three-bit fields that the builders reject have words too (log entry
12). -/
def Obligations.DecodeOfEncodeGivesTheInstruction : Prop :=
  (∀ i : Instr, i.WellFormed → i ≠ .readPowerLevel → i ≠ .readRegister 0x0529 → i ≠ .readRegister 0x0525 →
    decode (encode i) = .ok i) ∧
  decode (encode .readPowerLevel) = .ok .readPower ∧
  decode (encode (.readRegister 0x0529)) = .ok .readPower ∧
  decode (encode (.readRegister 0x0525)) = .ok .readAmbientTemperature

/-- Every word that decodes is the word of the well-formed instruction it decodes to: no bit of it is dropped. -/
def Obligations.EncodeOfDecodeGivesTheWord : Prop :=
  ∀ (w : List Byte) (i : Instr), decode w = .ok i → i.WellFormed ∧ encode i = w

/-- R151: rows that share a word have one meaning. -/
def Obligations.RowsOfOneWordHaveOneMeaning : Prop :=
  ∀ s : State,
    exec .readPowerLevel s = exec .readPower s ∧
    exec (.readRegister 0x0529) s = exec .readPower s ∧
    exec (.readRegister 0x0525) s = exec .readAmbientTemperature s
end

