-- ==== Sys2Proof/Laws/Bytes.lean ====
section
/-! SUPPORT. Laws of byte sequences. -/

namespace Sys2Proof

theorem Bytes.ext_bytes {n : Nat} {a b : Bytes n} (h : a.bytes = b.bytes) : a = b := by
  cases a; cases b; simp_all

@[simp] theorem Bytes.length_bytes {n : Nat} (a : Bytes n) : a.bytes.length = n := a.len

@[simp] theorem Bytes.bytes_slice {n : Nat} (s : Bytes n) (a m : Nat) (h : a + m ≤ n) :
    (s.slice a m h).bytes = (s.bytes.drop a).take m := rfl

@[simp] theorem Bytes.bytes_append {m n : Nat} (a : Bytes m) (b : Bytes n) :
    (a.append b).bytes = a.bytes ++ b.bytes := rfl

@[simp] theorem Bytes.bytes_cast {m n : Nat} (h : m = n) (a : Bytes m) : (a.cast h).bytes = a.bytes := rfl

@[simp] theorem Bytes.bytes_xor {n : Nat} (a b : Bytes n) :
    (a.xor b).bytes = List.zipWith (fun x y => x ^^^ y) a.bytes b.bytes := rfl

@[simp] theorem Bytes.bytes_replicate (n : Nat) (v : Byte) :
    (Bytes.replicate n v).bytes = List.replicate n v := rfl

theorem zipWith_xor_cancel (a b : List Byte) (h : a.length = b.length) :
    List.zipWith (fun x y => x ^^^ y) (List.zipWith (fun x y => x ^^^ y) a b) b = a := by
  induction a generalizing b with
  | nil => simp
  | cons x xs ih =>
    cases b with
    | nil => simp at h
    | cons y ys => simp [ih ys (by simpa using h)]

/-- XOR with the same sequence twice gives the first one back. -/
@[simp] theorem Bytes.xor_xor_cancel {n : Nat} (a b : Bytes n) : (a.xor b).xor b = a :=
  Bytes.ext_bytes (zipWith_xor_cancel a.bytes b.bytes (by simp))

/-- The first part of a concatenation. -/
@[simp] theorem Bytes.slice_append_left {m n : Nat} (a : Bytes m) (b : Bytes n) (h : 0 + m ≤ m + n) :
    (a.append b).slice 0 m h = a :=
  Bytes.ext_bytes (by simp)

/-- The second part of a concatenation. -/
@[simp] theorem Bytes.slice_append_right {m n : Nat} (a : Bytes m) (b : Bytes n) (h : m + n ≤ m + n) :
    (a.append b).slice m n h = b :=
  Bytes.ext_bytes (by simp)

/-- A sequence is its first part and the rest. -/
theorem Bytes.append_slices {m n : Nat} (s : Bytes (m + n)) :
    (s.slice 0 m (by omega)).append (s.slice m n (by omega)) = s :=
  Bytes.ext_bytes (by
    have h : (s.bytes.drop m).take n = s.bytes.drop m := List.take_of_length_le (by simp)
    simp [h])

/-- `ofList?` answers the sequence itself where the length is right. -/
@[simp] theorem Bytes.ofList?_bytes {n : Nat} (a : Bytes n) : Bytes.ofList? n a.bytes = some a := by
  simp [Bytes.ofList?]

/-- `ofList?` answers nothing exactly where the length is wrong. -/
theorem Bytes.ofList?_eq_none {n : Nat} (l : List Byte) : Bytes.ofList? n l = none ↔ l.length ≠ n := by
  unfold Bytes.ofList?; split <;> simp_all

theorem Bytes.ofList?_eq_some {n : Nat} {l : List Byte} {a : Bytes n} (h : Bytes.ofList? n l = some a) :
    a.bytes = l := by
  unfold Bytes.ofList? at h
  split at h
  · simp only [Option.some.injEq] at h; rw [← h]
  · simp at h

/-- R14: `be16(hi, lo) = hi*256 + lo`. -/
theorem be16_toNat (hi lo : Byte) : (be16 hi lo).toNat = hi.toNat * 256 + lo.toNat := by
  have h : (be16 hi lo).toNat = hi.toNat <<< 8 ||| lo.toNat := BitVec.toNat_append hi lo
  rw [h, ← Nat.shiftLeft_add_eq_or_of_lt lo.isLt, Nat.shiftLeft_eq]

theorem hiByte_toNat (v : Word16) : (hiByte v).toNat = v.toNat / 256 := by
  have := v.isLt
  simp only [hiByte, BitVec.extractLsb'_toNat, Nat.shiftRight_eq_div_pow]
  omega

theorem loByte_toNat (v : Word16) : (loByte v).toNat = v.toNat % 256 := by
  simp [loByte, BitVec.extractLsb'_toNat]

@[simp] theorem hiByte_be16 (hi lo : Byte) : hiByte (be16 hi lo) = hi := by
  apply BitVec.eq_of_toNat_eq
  have := lo.isLt
  rw [hiByte_toNat, be16_toNat]; omega

@[simp] theorem loByte_be16 (hi lo : Byte) : loByte (be16 hi lo) = lo := by
  apply BitVec.eq_of_toNat_eq
  have := lo.isLt
  rw [loByte_toNat, be16_toNat]; omega

@[simp] theorem be16_hiByte_loByte (v : Word16) : be16 (hiByte v) (loByte v) = v := by
  apply BitVec.eq_of_toNat_eq
  rw [be16_toNat, hiByte_toNat, loByte_toNat]; omega

end Sys2Proof
end

