-- ==== Sys2Proof/Laws/Checksum.lean ====
section
/-! SUPPORT. One byte of the checksum at a time. -/

namespace Sys2Proof.Machine

/-- The halves of the table-driven form after one byte more. -/
theorem checksum_foldl_append (hT lT : Bytes 256) (acc : Accumulator) (d : List Byte) (b : Byte) :
    (d ++ [b]).foldl (checksumStep hT lT) acc =
      checksumStep hT lT (d.foldl (checksumStep hT lT) acc) b := by
  simp [List.foldl_append]

/-- The accumulator of the bit-shifting form after one byte more. -/
theorem crc_foldl_append (crc : Word16) (d : List Byte) (b : Byte) :
    (d ++ [b]).foldl crcByte crc = crcByte (d.foldl crcByte crc) b := by
  simp [List.foldl_append]

/-- R91: a shift step is linear over XOR. -/
theorem crcShift_xor (a b : Word16) : crcShift (a ^^^ b) = crcShift a ^^^ crcShift b := by
  unfold crcShift
  rw [BitVec.getLsbD_xor, BitVec.ushiftRight_xor_distrib]
  cases a.getLsbD 0 <;> cases b.getLsbD 0 <;> simp only [Bool.xor_true, Bool.xor_false, Bool.not_true,
    Bool.not_false, if_true, if_false, Bool.false_eq_true]
  · ac_rfl
  · ac_rfl
  · have h : ∀ x y p : Word16, x ^^^ p ^^^ (y ^^^ p) = x ^^^ y := by
      intro x y p; rw [BitVec.xor_assoc, ← BitVec.xor_assoc p, BitVec.xor_comm p y, BitVec.xor_assoc y]; simp
    rw [h]

/-- R93: the eight shift steps are linear over XOR. -/
theorem crcShift8_xor (a b : Word16) : crcShift8 (a ^^^ b) = crcShift8 a ^^^ crcShift8 b := by
  simp only [crcShift8, crcShift_xor]

end Sys2Proof.Machine
end

