-- ==== Sys2Proof/Laws/Cipher.lean ====
section
/-! SUPPORT. Laws of the block cipher's parameter and of one block of each chaining mode. -/

namespace Sys2Proof.Machine

/-- R101: the contract of the parameter, one direction. -/
@[simp] theorem blockDecrypt_blockEncrypt (key : Bytes 16) (x : Block) :
    blockDecrypt key (blockEncrypt key x) = x := by
  simp [blockDecrypt, blockEncrypt]

/-- R101: the contract of the parameter, the other direction. -/
@[simp] theorem blockEncrypt_blockDecrypt (key : Bytes 16) (y : Block) :
    blockEncrypt key (blockDecrypt key y) = y := by
  simp [blockDecrypt, blockEncrypt]

/-- R102: the bytes of a chain, its first block and the chain of the rest. -/
theorem cbcEncrypt_bytes (encBlock : Block → Block) (n : Nat) (prev : Block) (p : Bytes (16 * (n + 1))) :
    (cbcEncrypt encBlock (n + 1) prev p).bytes =
      (encBlock ((p.slice 0 16 (by omega)).xor prev)).bytes ++
        (cbcEncrypt encBlock n (encBlock ((p.slice 0 16 (by omega)).xor prev))
          (p.slice 16 (16 * n) (by omega))).bytes := rfl

/-- R103: the bytes of a chain, its first block and the chain of the rest. -/
theorem cbcDecrypt_bytes (decBlock : Block → Block) (n : Nat) (prev : Block) (c : Bytes (16 * (n + 1))) :
    (cbcDecrypt decBlock (n + 1) prev c).bytes =
      ((decBlock (c.slice 0 16 (by omega))).xor prev).bytes ++
        (cbcDecrypt decBlock n (c.slice 0 16 (by omega)) (c.slice 16 (16 * n) (by omega))).bytes := rfl

/-- A slice of a slice is a slice. -/
theorem Bytes.slice_slice {n : Nat} (s : Bytes n) (a m b k : Nat) (h : a + m ≤ n) (h' : b + k ≤ m) :
    (s.slice a m h).slice b k h' = s.slice (a + b) k (by omega) :=
  Bytes.ext_bytes (by
    simp only [Bytes.bytes_slice, List.drop_take, List.drop_drop, List.take_take]
    rw [show min k (m - b) = k by omega])

end Sys2Proof.Machine
end

