-- ==== Sys2Proof/Laws/State.lean ====
section
/-! SUPPORT. One lemma for each field under each update of the state. -/

namespace Sys2Proof.Machine

@[simp] theorem State.present_constants (s : State) (op : Byte) (operand : List Byte) (time : Time32) :
    (s.present op operand time).constants = s.constants := rfl
@[simp] theorem State.present_op (s : State) (op : Byte) (operand : List Byte) (time : Time32) :
    (s.present op operand time).op = op := rfl
@[simp] theorem State.present_inp (s : State) (op : Byte) (operand : List Byte) (time : Time32) :
    (s.present op operand time).inp = operand := rfl
@[simp] theorem State.present_time (s : State) (op : Byte) (operand : List Byte) (time : Time32) :
    (s.present op operand time).time = time := rfl
@[simp] theorem State.present_status (s : State) (op : Byte) (operand : List Byte) (time : Time32) :
    (s.present op operand time).status = s.status := rfl
@[simp] theorem State.present_out (s : State) (op : Byte) (operand : List Byte) (time : Time32) :
    (s.present op operand time).out = s.out := rfl
@[simp] theorem State.present_busy (s : State) (op : Byte) (operand : List Byte) (time : Time32) :
    (s.present op operand time).busy = s.busy := rfl
@[simp] theorem State.present_hostResult (s : State) (op : Byte) (operand : List Byte) (time : Time32) :
    (s.present op operand time).hostResult = s.hostResult := rfl
@[simp] theorem State.present_pending (s : State) (op : Byte) (operand : List Byte) (time : Time32) :
    (s.present op operand time).pending = s.pending := rfl

@[simp] theorem State.withTime_constants (s : State) (time : Time32) :
    (s.withTime time).constants = s.constants := rfl
@[simp] theorem State.withTime_op (s : State) (time : Time32) :
    (s.withTime time).op = s.op := rfl
@[simp] theorem State.withTime_inp (s : State) (time : Time32) :
    (s.withTime time).inp = s.inp := rfl
@[simp] theorem State.withTime_time (s : State) (time : Time32) :
    (s.withTime time).time = time := rfl
@[simp] theorem State.withTime_status (s : State) (time : Time32) :
    (s.withTime time).status = s.status := rfl
@[simp] theorem State.withTime_out (s : State) (time : Time32) :
    (s.withTime time).out = s.out := rfl
@[simp] theorem State.withTime_busy (s : State) (time : Time32) :
    (s.withTime time).busy = s.busy := rfl
@[simp] theorem State.withTime_hostResult (s : State) (time : Time32) :
    (s.withTime time).hostResult = s.hostResult := rfl
@[simp] theorem State.withTime_pending (s : State) (time : Time32) :
    (s.withTime time).pending = s.pending := rfl

@[simp] theorem State.complete_constants (s : State) (result : List Byte) :
    (s.complete result).constants = s.constants := rfl
@[simp] theorem State.complete_op (s : State) (result : List Byte) :
    (s.complete result).op = s.op := rfl
@[simp] theorem State.complete_inp (s : State) (result : List Byte) :
    (s.complete result).inp = s.inp := rfl
@[simp] theorem State.complete_time (s : State) (result : List Byte) :
    (s.complete result).time = s.time := rfl
@[simp] theorem State.complete_status (s : State) (result : List Byte) :
    (s.complete result).status = statusOk := rfl
@[simp] theorem State.complete_out (s : State) (result : List Byte) :
    (s.complete result).out = result := rfl
@[simp] theorem State.complete_busy (s : State) (result : List Byte) :
    (s.complete result).busy = s.busy := rfl
@[simp] theorem State.complete_hostResult (s : State) (result : List Byte) :
    (s.complete result).hostResult = s.hostResult := rfl
@[simp] theorem State.complete_pending (s : State) (result : List Byte) :
    (s.complete result).pending = s.pending := rfl

@[simp] theorem State.raiseError_constants (s : State) (code : Byte) :
    (s.raiseError code).constants = s.constants := rfl
@[simp] theorem State.raiseError_op (s : State) (code : Byte) :
    (s.raiseError code).op = s.op := rfl
@[simp] theorem State.raiseError_inp (s : State) (code : Byte) :
    (s.raiseError code).inp = s.inp := rfl
@[simp] theorem State.raiseError_time (s : State) (code : Byte) :
    (s.raiseError code).time = s.time := rfl
@[simp] theorem State.raiseError_status (s : State) (code : Byte) :
    (s.raiseError code).status = code := rfl
@[simp] theorem State.raiseError_out (s : State) (code : Byte) :
    (s.raiseError code).out = [] := rfl
@[simp] theorem State.raiseError_busy (s : State) (code : Byte) :
    (s.raiseError code).busy = s.busy := rfl
@[simp] theorem State.raiseError_hostResult (s : State) (code : Byte) :
    (s.raiseError code).hostResult = s.hostResult := rfl
@[simp] theorem State.raiseError_pending (s : State) (code : Byte) :
    (s.raiseError code).pending = s.pending := rfl

@[simp] theorem State.resetBlock_constants (s : State) :
    s.resetBlock.constants = s.constants := rfl
@[simp] theorem State.resetBlock_op (s : State) :
    s.resetBlock.op = s.op := rfl
@[simp] theorem State.resetBlock_inp (s : State) :
    s.resetBlock.inp = s.inp := rfl
@[simp] theorem State.resetBlock_time (s : State) :
    s.resetBlock.time = s.time := rfl
@[simp] theorem State.resetBlock_status (s : State) :
    s.resetBlock.status = statusOk := rfl
@[simp] theorem State.resetBlock_out (s : State) :
    s.resetBlock.out = [] := rfl
@[simp] theorem State.resetBlock_busy (s : State) :
    s.resetBlock.busy = false := rfl
@[simp] theorem State.resetBlock_hostResult (s : State) :
    s.resetBlock.hostResult = s.hostResult := rfl
@[simp] theorem State.resetBlock_pending (s : State) :
    s.resetBlock.pending = s.pending := rfl

@[simp] theorem State.setHostResult_constants (s : State) (r : HostResult) :
    (s.setHostResult r).constants = s.constants := rfl
@[simp] theorem State.setHostResult_op (s : State) (r : HostResult) :
    (s.setHostResult r).op = s.op := rfl
@[simp] theorem State.setHostResult_inp (s : State) (r : HostResult) :
    (s.setHostResult r).inp = s.inp := rfl
@[simp] theorem State.setHostResult_time (s : State) (r : HostResult) :
    (s.setHostResult r).time = s.time := rfl
@[simp] theorem State.setHostResult_status (s : State) (r : HostResult) :
    (s.setHostResult r).status = s.status := rfl
@[simp] theorem State.setHostResult_out (s : State) (r : HostResult) :
    (s.setHostResult r).out = s.out := rfl
@[simp] theorem State.setHostResult_busy (s : State) (r : HostResult) :
    (s.setHostResult r).busy = s.busy := rfl
@[simp] theorem State.setHostResult_hostResult (s : State) (r : HostResult) :
    (s.setHostResult r).hostResult = r := rfl
@[simp] theorem State.setHostResult_pending (s : State) (r : HostResult) :
    (s.setHostResult r).pending = s.pending := rfl

@[simp] theorem State.beginOperation_constants (s : State) : s.beginOperation.constants = s.constants := rfl
@[simp] theorem State.beginOperation_op (s : State) : s.beginOperation.op = s.op := rfl
@[simp] theorem State.beginOperation_inp (s : State) : s.beginOperation.inp = s.inp := rfl
@[simp] theorem State.beginOperation_time (s : State) : s.beginOperation.time = s.time := rfl
@[simp] theorem State.beginOperation_status (s : State) : s.beginOperation.status = s.status := rfl
@[simp] theorem State.beginOperation_out (s : State) : s.beginOperation.out = s.out := rfl
@[simp] theorem State.beginOperation_busy (s : State) : s.beginOperation.busy = true := rfl
@[simp] theorem State.beginOperation_hostResult (s : State) : s.beginOperation.hostResult = s.hostResult := rfl
@[simp] theorem State.beginOperation_pending (s : State) : s.beginOperation.pending = s.pending := rfl

@[simp] theorem State.endOperation_constants (s : State) : s.endOperation.constants = s.constants := rfl
@[simp] theorem State.endOperation_op (s : State) : s.endOperation.op = s.op := rfl
@[simp] theorem State.endOperation_inp (s : State) : s.endOperation.inp = s.inp := rfl
@[simp] theorem State.endOperation_time (s : State) : s.endOperation.time = s.time := rfl
@[simp] theorem State.endOperation_status (s : State) : s.endOperation.status = s.status := rfl
@[simp] theorem State.endOperation_out (s : State) : s.endOperation.out = s.out := rfl
@[simp] theorem State.endOperation_busy (s : State) : s.endOperation.busy = false := rfl
@[simp] theorem State.endOperation_hostResult (s : State) : s.endOperation.hostResult = s.hostResult := rfl
@[simp] theorem State.endOperation_pending (s : State) : s.endOperation.pending = s.pending := rfl

@[simp] theorem State.raiseValidationError_eq (s : State) :
    s.raiseValidationError = s.raiseError statusValidationError := rfl

@[simp] theorem State.raiseIllegalOp_eq (s : State) : s.raiseIllegalOp = s.raiseError statusIllegalOp := rfl

@[simp] theorem State.completeRecord_eq (s : State) (r : DeviceResponse) :
    s.completeRecord r = s.complete (serialise r).bytes := rfl

/-- Selecting the operation code touches `OP` alone. -/
theorem State.selectOp_eq (s : State) (i : Instr) : s.selectOp i = { s with op := (s.selectOp i).op } := by
  unfold State.selectOp; split <;> rfl

@[simp] theorem State.selectOp_constants (s : State) (i : Instr) : (s.selectOp i).constants = s.constants := by
  rw [State.selectOp_eq]
@[simp] theorem State.selectOp_inp (s : State) (i : Instr) : (s.selectOp i).inp = s.inp := by
  rw [State.selectOp_eq]
@[simp] theorem State.selectOp_time (s : State) (i : Instr) : (s.selectOp i).time = s.time := by
  rw [State.selectOp_eq]
@[simp] theorem State.selectOp_status (s : State) (i : Instr) : (s.selectOp i).status = s.status := by
  rw [State.selectOp_eq]
@[simp] theorem State.selectOp_out (s : State) (i : Instr) : (s.selectOp i).out = s.out := by
  rw [State.selectOp_eq]
@[simp] theorem State.selectOp_busy (s : State) (i : Instr) : (s.selectOp i).busy = s.busy := by
  rw [State.selectOp_eq]
@[simp] theorem State.selectOp_hostResult (s : State) (i : Instr) : (s.selectOp i).hostResult = s.hostResult := by
  rw [State.selectOp_eq]
@[simp] theorem State.selectOp_pending (s : State) (i : Instr) : (s.selectOp i).pending = s.pending := by
  rw [State.selectOp_eq]

end Sys2Proof.Machine
end

