-- ==== Sys2Proof/Laws/Ops.lean ====
section
/-! SUPPORT. What each shared operation can do, said once. -/

namespace Sys2Proof.Machine

/-- R114: encryption reads the constants alone. -/
theorem State.encrypt_congr {s s' : State} (h : s'.constants = s.constants) (p : Bytes 32) :
    s'.encrypt p = s.encrypt p := by
  rw [State.encrypt, h, State.encrypt]

/-- R114: decryption reads the constants alone. -/
theorem State.decrypt_congr {s s' : State} (h : s'.constants = s.constants) (c : Bytes 32) :
    s'.decrypt c = s.decrypt c := by
  rw [State.decrypt, h, State.decrypt]

/-- R126: the packet depends on the command, the constants and the time alone. -/
theorem State.buildPacket_congr {s s' : State} (h : s'.constants = s.constants) (ht : s'.time = s.time)
    (command : Bytes 6) : s'.buildPacket command = s.buildPacket command := by
  simp only [State.buildPacket, State.checksum, State.now32, h, ht, State.encrypt_congr h]

/-- R44, R120: `BUILD` on an operand of six bytes. -/
theorem State.runBuild_of_command {s : State} {command : Bytes 6} (h : s.inp = command.bytes) :
    s.runBuild = s.complete (s.buildPacket command).bytes := by
  simp [State.runBuild, commandOperand, h]

/-- R121: `BUILD` on an operand of another length. -/
theorem State.runBuild_of_length {s : State} (h : s.inp.length ≠ 6) :
    s.runBuild = s.raiseError statusValidationError := by
  simp [State.runBuild, commandOperand, (Bytes.ofList?_eq_none s.inp).mpr h]

/-- The two outcomes of `BUILD`. -/
theorem State.runBuild_cases (s : State) :
    (∃ packet : Bytes 32, s.runBuild = s.complete packet.bytes) ∨
      s.runBuild = s.raiseError statusValidationError := by
  unfold State.runBuild
  cases commandOperand s.inp with
  | some command => exact .inl ⟨_, rfl⟩
  | none => exact .inr rfl

/-- R76: a pseudo-instruction always has its `BUILD` succeed. -/
theorem State.issueBuild_eq (s : State) (command : Bytes 6) :
    s.issueBuild command =
      { s with hostResult := .command command, op := 0x04, inp := command.bytes, status := statusOk
               out := (s.buildPacket command).bytes } := by
  unfold State.issueBuild
  rw [State.runBuild_of_command (command := command) rfl]
  rfl

/-- R154 to R156: a builder with a range check issues its `BUILD`, or reports on the host and nothing else. -/
theorem State.issueChecked_cases (s : State) (command : Option (Bytes 6)) :
    (∃ c, command = some c ∧ s.issueChecked command = s.issueBuild c) ∨
      (command = none ∧ s.issueChecked command = s.setHostResult .validationError) := by
  cases command with
  | some c => exact .inl ⟨c, rfl, rfl⟩
  | none => exact .inr ⟨rfl, rfl⟩

/-- R184: an operation request runs the instruction its code selects. -/
theorem performOperation_of_decode {s : State} {i : Instr} (h : decode [s.op] = .ok i) :
    performOperation s = exec i s := by
  unfold performOperation; rw [h]

/-- R74: a reserved code raises `ILLEGAL_OP`. -/
theorem performOperation_of_reserved {s : State} {r : Rejection} (h : decode [s.op] = .error r) :
    performOperation s = .next (s.raiseError statusIllegalOp) := by
  unfold performOperation; rw [h]; rfl

/-- R69, R74: what the operation select decodes to. -/
theorem decode_op_cases (op : Byte) :
    (op = 0x01 ∧ decode [op] = .ok .csum) ∨ (op = 0x02 ∧ decode [op] = .ok .enc) ∨
    (op = 0x03 ∧ decode [op] = .ok .dec) ∨ (op = 0x04 ∧ decode [op] = .ok .build) ∨
    (op = 0x05 ∧ decode [op] = .ok .parse) ∨
    ((op ≠ 0x01 ∧ op ≠ 0x02 ∧ op ≠ 0x03 ∧ op ≠ 0x04 ∧ op ≠ 0x05) ∧ decode [op] = .error (.reservedOp op)) := by
  by_cases h1 : op = 0x01
  · subst h1; exact .inl ⟨rfl, rfl⟩
  by_cases h2 : op = 0x02
  · subst h2; exact .inr (.inl ⟨rfl, rfl⟩)
  by_cases h3 : op = 0x03
  · subst h3; exact .inr (.inr (.inl ⟨rfl, rfl⟩))
  by_cases h4 : op = 0x04
  · subst h4; exact .inr (.inr (.inr (.inl ⟨rfl, rfl⟩)))
  by_cases h5 : op = 0x05
  · subst h5; exact .inr (.inr (.inr (.inr (.inl ⟨rfl, rfl⟩))))
  refine .inr (.inr (.inr (.inr (.inr ⟨⟨h1, h2, h3, h4, h5⟩, ?_⟩))))
  show decodeOp op = _
  rw [decodeOp, if_neg h1, if_neg h2, if_neg h3, if_neg h4, if_neg h5]

/-- R184, R185: what an operation request can do, reserved code or not: it completes, or raises one of the block's two
errors. It never stops. -/
theorem performOperation_cases (s : State) :
    (∃ result, performOperation s = .next (s.complete result)) ∨
      performOperation s = .next (s.raiseError statusValidationError) ∨
      performOperation s = .next (s.raiseError statusIllegalOp) := by
  rcases decode_op_cases s.op with ⟨-, h⟩ | ⟨-, h⟩ | ⟨-, h⟩ | ⟨-, h⟩ | ⟨-, h⟩ | ⟨-, h⟩
  · rw [performOperation_of_decode h]
    exact .inl ⟨_, rfl⟩
  · rw [performOperation_of_decode h]
    simp only [exec, execEnc]
    split
    · exact .inl ⟨_, rfl⟩
    · exact .inr (.inl rfl)
  · rw [performOperation_of_decode h]
    simp only [exec, execDec]
    split
    · exact .inl ⟨_, rfl⟩
    · exact .inr (.inl rfl)
  · rw [performOperation_of_decode h]
    rcases s.runBuild_cases with ⟨packet, hb⟩ | hb
    · exact .inl ⟨packet.bytes, by rw [exec, execBuild, hb]⟩
    · exact .inr (.inl (by rw [exec, execBuild, hb]))
  · rw [performOperation_of_decode h]
    simp only [exec, execParse]
    split
    · exact .inl ⟨_, rfl⟩
    · exact .inr (.inl rfl)
  · exact .inr (.inr (performOperation_of_reserved h))

/-- The three outcomes of a decoder request. -/
theorem runDecoder_cases (d : ValueDecoder) (s : State) :
    (deserialise s.out = none ∧ runDecoder d s = .fault .noRecordOnOut) ∨
    (∃ r, deserialise s.out = some r ∧ decodeRecord d r = none ∧ runDecoder d s = .refused .shortRecord) ∨
    (∃ r result, deserialise s.out = some r ∧ decodeRecord d r = some result ∧
      runDecoder d s = .next (s.setHostResult result)) := by
  unfold runDecoder
  cases h : deserialise s.out with
  | none => exact .inl ⟨rfl, rfl⟩
  | some r =>
    cases h' : decodeRecord d r with
    | none => exact .inr (.inl ⟨r, rfl, h', by simp [h']⟩)
    | some result => exact .inr (.inr ⟨r, result, rfl, h', by simp [h']⟩)

/-- The three things a step can do: abandon the operation in flight, bring it to its outcome, or, with none in flight,
take the next request. -/
theorem step_cases (s : State) :
    (∃ rest, s.busy = true ∧ s.pending = .reset :: rest ∧
      step s = .next { s with pending := rest, status := statusOk, out := [], busy := false }) ∨
    (s.busy = true ∧ s.pending.head? ≠ some .reset ∧ step s = performOperation s.endOperation) ∨
    (s.busy = false ∧ step s = takeRequest s) := by
  unfold step
  cases hb : s.busy with
  | false => exact .inr (.inr ⟨rfl, rfl⟩)
  | true =>
    rw [if_pos rfl]
    unfold continueOperation
    split
    · next rest h => exact .inl ⟨rest, rfl, h, rfl⟩
    · next h =>
      refine .inr (.inl ⟨rfl, fun hr => ?_, rfl⟩)
      obtain ⟨rest, hp⟩ := List.head?_eq_some_iff.mp hr
      exact h rest hp

/-- With no operation in flight and a request pending, the step performs it. -/
theorem step_of_request {s : State} {r : Request} {rest : List Request} (hb : s.busy = false)
    (h : s.pending = r :: rest) : step s = performRequest r { s with pending := rest } := by
  simp [step, hb, takeRequest, h]

/-- With no operation in flight and no request the step changes nothing. -/
theorem step_of_idle {s : State} (hb : s.busy = false) (h : s.pending = []) : step s = .next s := by
  simp [step, hb, takeRequest, h]

/-- An operation in flight with no reset next comes to its outcome. -/
theorem step_of_flight {s : State} (hb : s.busy = true) (h : s.pending.head? ≠ some .reset) :
    step s = performOperation s.endOperation := by
  rcases step_cases s with ⟨rest, -, hp, -⟩ | ⟨-, -, hs⟩ | ⟨hb', -⟩
  · exact absurd (by simp [hp]) h
  · exact hs
  · simp [hb] at hb'

end Sys2Proof.Machine
end

