-- ==== Sys2Proof/Laws/PerInstr.lean ====
section
/-! SUPPORT. A fact about every instruction as syntax, one lemma for each constructor: the word has the width its
row of the opcode table gives. -/

namespace Sys2Proof.Laws.EncodeWidth

/-- The widths of spec/opcode_table.json in bytes: 1 for `OP`, 7 for `RESP7`, 6 for `CMD6`. -/
def Statement (i : Instr) : Prop :=
  (encode i).length = match i with
    | .csum | .enc | .dec | .build | .parse => 1
    | .respError .. | .respRead .. | .respEcho .. => 7
    | _ => 6

theorem csum : Statement .csum := rfl
theorem enc : Statement .enc := rfl
theorem dec : Statement .dec := rfl
theorem build : Statement .build := rfl
theorem parse : Statement .parse := rfl
theorem respError (slave : Byte) (code : BitVec 7) (exc x3 x4 x5 x6 : Byte) :
    Statement (.respError slave code exc x3 x4 x5 x6) := rfl
theorem respRead (slave count d0 d1 d2 d3 : Byte) : Statement (.respRead slave count d0 d1 d2 d3) := rfl
theorem respEcho (slave : Byte) (code : BitVec 7) (d0 d1 d2 d3 x6 : Byte) :
    Statement (.respEcho slave code d0 d1 d2 d3 x6) := rfl
theorem readRegister (reg : Word16) : Statement (.readRegister reg) := rfl
theorem readPower : Statement .readPower := rfl
theorem readPowerLevel : Statement .readPowerLevel := rfl
theorem readAmbientTemperature : Statement .readAmbientTemperature := rfl
theorem setPower (on : Bool) : Statement (.setPower on) := rfl
theorem setTemperature (celsius : Decimal) : Statement (.setTemperature celsius) := rfl
theorem setPowerLevel (level : Int) : Statement (.setPowerLevel level) := rfl
theorem setFan1Speed (speed : Int) : Statement (.setFan1Speed speed) := rfl
theorem setFan2Speed (speed : Int) : Statement (.setFan2Speed speed) := rfl
theorem setAutoMode (enabled : Bool) : Statement (.setAutoMode enabled) := rfl
theorem setStandby (enabled : Bool) : Statement (.setStandby enabled) := rfl

end Sys2Proof.Laws.EncodeWidth
end

