-- ==== Sys2Proof/Laws/Records.lean ====
section
/-! SUPPORT. Laws of the window, its classification, and the record's byte form. -/

namespace Sys2Proof.Machine

/-- R10: the error bit is bit 7. -/
theorem errorBit_eq : ∀ raw : Byte, errorBit raw = raw.getLsbD 7 := by decide +kernel

@[simp] theorem recordFlags_error : recordFlags true false = 0x01 := by decide
@[simp] theorem recordFlags_read : recordFlags false true = 0x02 := by decide
@[simp] theorem recordFlags_echo : recordFlags false false = 0x00 := by decide
@[simp] theorem recordFlags_both : recordFlags true true = 0x03 := by decide

@[simp] theorem flagIsError_recordFlags : ∀ e b : Bool, flagIsError (recordFlags e b) = e := by decide
@[simp] theorem flagByteCountPresent_recordFlags : ∀ e b : Bool, flagByteCountPresent (recordFlags e b) = b := by
  decide

/-- A window is its seven bytes. -/
theorem window_bytes (dr : Bytes 7) : ∃ b0 b1 b2 b3 b4 b5 b6, dr.bytes = [b0, b1, b2, b3, b4, b5, b6] := by
  obtain ⟨l, hl⟩ := dr
  match l, hl with
  | [b0, b1, b2, b3, b4, b5, b6], _ => exact ⟨_, _, _, _, _, _, _, rfl⟩

/-- R132: the classification of a window given by its bytes. -/
theorem classify_of_bytes (dr : Bytes 7) (b0 b1 b2 b3 b4 b5 b6 : Byte)
    (h : dr.bytes = [b0, b1, b2, b3, b4, b5, b6]) :
    classify dr =
      if errorBit b1 then errorRecord b0 b1 b2
      else if b1 = 0x03 then readRecord b0 b2 b3 b4 b5 b6
      else echoRecord b0 b1 b2 b3 b4 b5 := by
  obtain ⟨l, hl⟩ := dr
  simp only at h
  subst h
  rfl

/-- R136: a read reply's data has at most four bytes. -/
theorem readData_length (d0 d1 d2 d3 n : Byte) : (readData d0 d1 d2 d3 n).length = min n.toNat 4 := by
  simp [readData]

/-- R66: the bytes of an error reply's record. -/
theorem serialise_errorRecord (slave raw exc : Byte) :
    (serialise (errorRecord slave raw exc)).bytes =
      [slave, raw &&& 0x7F, 0x01, 0x00, 0x01, exc, 0x00, 0x00, 0x00] := by
  simp [serialise, errorRecord, dataByte]

/-- R66: the bytes of an echo's record. -/
theorem serialise_echoRecord (slave raw d0 d1 d2 d3 : Byte) :
    (serialise (echoRecord slave raw d0 d1 d2 d3)).bytes =
      [slave, raw, 0x00, 0x00, 0x04, d0, d1, d2, d3] := by
  simp [serialise, echoRecord, dataByte]

end Sys2Proof.Machine
end

