-- ==== Sys2Proof/Tests/Slice0.lean ====
section
/-! SUPPORT. Small tests, each on the outcome the spec gives (95_test_vectors.md, by the id in the comment), and for
every statement with hypotheses a concrete state and operands that meet them. -/

namespace Sys2Proof.Tests

open Sys2Proof.Machine

-- One test after the other: a thread for each of them would ask for more stack than the memory limit allows.
set_option Elab.async false

/-! ### Helpers -/

/-- The next state, where there is one. -/
def nextOf (o : Host.Outcome State Fault Refusal) : Option State :=
  match o with
  | .next s => some s
  | .fault _ => none
  | .refused _ => none

/-- `STATUS` and `OUT` of the next state. -/
def outcomeOf (o : Host.Outcome State Fault Refusal) : Option (Byte × List Byte) :=
  (nextOf o).map fun s => (s.status, s.out)

/-- What the host holds in the next state. -/
def hostOf (o : Host.Outcome State Fault Refusal) : Option HostResult := (nextOf o).map fun s => s.hostResult

/-- The machine after reset with an operand on `IN`, and a status an operation must overwrite. -/
def testState (operand : List Byte) : State := { State.reset with inp := operand, status := 0x03 }

/-- The machine after reset with a record on `OUT`. -/
def recordState (r : DeviceResponse) : State := { State.reset with out := (serialise r).bytes }

/-! ### Well-formedness: each check refuses an ill-formed term -/

theorem test_echo_of_a_read_code_is_ill_formed : (Instr.respEcho 0x01 0x03#7 0 0 0 0 0).wellFormed = false := by decide
theorem test_echo_of_another_code_is_well_formed : (Instr.respEcho 0x01 0x7F#7 0 0 0 0 0).wellFormed = true := by
  decide
theorem test_hundredths_are_ill_formed : (Instr.setTemperature ⟨2150, 2⟩).wellFormed = false := by decide
theorem test_negative_temperature_is_ill_formed : (Instr.setTemperature ⟨-1, 1⟩).wellFormed = false := by decide
theorem test_large_temperature_is_ill_formed : (Instr.setTemperature ⟨65536, 1⟩).wellFormed = false := by decide
theorem test_largest_temperature_is_well_formed : (Instr.setTemperature ⟨65535, 1⟩).wellFormed = true := by decide
theorem test_negative_level_is_ill_formed : (Instr.setPowerLevel (-1)).wellFormed = false := by decide
theorem test_large_level_is_ill_formed : (Instr.setPowerLevel 8).wellFormed = false := by decide
theorem test_negative_fan1_is_ill_formed : (Instr.setFan1Speed (-1)).wellFormed = false := by decide
theorem test_large_fan1_is_ill_formed : (Instr.setFan1Speed 8).wellFormed = false := by decide
theorem test_negative_fan2_is_ill_formed : (Instr.setFan2Speed (-1)).wellFormed = false := by decide
theorem test_large_fan2_is_ill_formed : (Instr.setFan2Speed 8).wellFormed = false := by decide

/-! ### Decoding: words written from R69, R64, R71, R72 and the table -/

theorem test_decode_csum : decode [0x01] = .ok .csum := by rfl
theorem test_decode_enc : decode [0x02] = .ok .enc := by rfl
theorem test_decode_dec : decode [0x03] = .ok .dec := by rfl
theorem test_decode_build : decode [0x04] = .ok .build := by rfl
theorem test_decode_parse : decode [0x05] = .ok .parse := by rfl
theorem test_decode_reserved : decode [0x00] = .error (.reservedOp 0x00) := by rfl
theorem test_decode_respError :
    decode [0x11, 0xFF, 0x02, 0xA3, 0xA4, 0xA5, 0xA6] =
      .ok (.respError 0x11 0x7F 0x02 0xA3 0xA4 0xA5 0xA6) := by rfl
theorem test_decode_error_bit_first :
    decode [0x01, 0x83, 0x02, 0x00, 0x00, 0x00, 0x00] = .ok (.respError 0x01 0x03 0x02 0 0 0 0) := by rfl
theorem test_decode_respRead :
    decode [0x01, 0x03, 0x07, 0x11, 0x22, 0x33, 0x44] = .ok (.respRead 0x01 0x07 0x11 0x22 0x33 0x44) := by rfl
theorem test_decode_respEcho :
    decode [0x11, 0x10, 0xDE, 0xAD, 0xBE, 0xEF, 0x99] = .ok (.respEcho 0x11 0x10 0xDE 0xAD 0xBE 0xEF 0x99) := by rfl
theorem test_decode_readRegister : decode [0x01, 0x03, 0x12, 0x34, 0x00, 0x01] = .ok (.readRegister 0x1234) := by rfl
theorem test_decode_readPower : decode [0x01, 0x03, 0x05, 0x29, 0x00, 0x01] = .ok .readPower := by rfl
theorem test_decode_readAmbientTemperature :
    decode [0x01, 0x03, 0x05, 0x25, 0x00, 0x01] = .ok .readAmbientTemperature := by rfl
theorem test_decode_setPower : decode [0x01, 0x06, 0x03, 0x1C, 0x00, 0x01] = .ok (.setPower true) := by rfl
theorem test_decode_setTemperature :
    decode [0x01, 0x06, 0x05, 0x25, 0x01, 0x2C] = .ok (.setTemperature ⟨300, 1⟩) := by rfl
theorem test_decode_setPowerLevel : decode [0x01, 0x06, 0x04, 0x40, 0x00, 0x03] = .ok (.setPowerLevel 3) := by rfl
theorem test_decode_setFan1Speed : decode [0x01, 0x06, 0x05, 0x4B, 0x00, 0x05] = .ok (.setFan1Speed 5) := by rfl
theorem test_decode_setFan2Speed : decode [0x01, 0x06, 0x05, 0x4D, 0x00, 0x07] = .ok (.setFan2Speed 7) := by rfl
theorem test_decode_setAutoMode : decode [0x01, 0x06, 0x04, 0x43, 0x00, 0x01] = .ok (.setAutoMode true) := by rfl
theorem test_decode_setStandby : decode [0x01, 0x06, 0x04, 0x44, 0x00, 0x00] = .ok (.setStandby false) := by rfl
theorem test_decode_wide_switch_value : decode [0x01, 0x06, 0x03, 0x1C, 0x00, 0x02] = .error .notACatalogCommand := by
  rfl
theorem test_decode_four_bit_level : decode [0x01, 0x06, 0x04, 0x40, 0x00, 0x08] = .error .notACatalogCommand := by rfl
theorem test_decode_other_register : decode [0x01, 0x06, 0x04, 0x45, 0x00, 0x01] = .error .notACatalogCommand := by rfl
theorem test_decode_read_of_two : decode [0x01, 0x03, 0x05, 0x29, 0x00, 0x02] = .error .notACatalogCommand := by rfl
theorem test_decode_two_bytes : decode [0x01, 0x02] = .error (.noSuchLength 2) := by rfl

theorem test_encode_readPowerLevel : encode .readPowerLevel = [0x01, 0x03, 0x05, 0x29, 0x00, 0x01] := by rfl

/-! The `match` column of spec/opcode_table.json. -/

theorem test_tableWord_op : decodeTableWord 8 0x05 = some .parse := by rfl
theorem test_tableWord_command : decodeTableWord 48 0x0106031C0000 = some (.setPower false) := by rfl
theorem test_tableWord_window : decodeTableWord 56 0x00800000000000 = some (.respError 0 0 0 0 0 0 0) := by rfl

/-- The word placed by `withFetchWord` is the next instruction to run, from reset. -/
theorem test_fetchWord_command :
    hostOf (step (State.reset.withFetchWord 48 0x010600000000)) = none ∧
    hostOf (step (State.reset.withFetchWord 48 0x0106044C0000)) = none ∧
    hostOf (step (State.reset.withFetchWord 48 0x010604440001)) =
      some (.command ⟨[0x01, 0x06, 0x04, 0x44, 0x00, 0x01], rfl⟩) := by decide +kernel
theorem test_fetchWord_window :
    outcomeOf (step (State.reset.withFetchWord 56 0x01030200D70000)) =
      some (0x00, [0x01, 0x03, 0x02, 0x02, 0x02, 0x00, 0xD7, 0x00, 0x00]) := by decide +kernel
theorem test_fetchWord_op :
    outcomeOf (step (State.reset.withFetchWord 8 0x01)) = some (0x00, [0xFF, 0xFF]) := by decide +kernel

/-! ### Checksum Engine -/

/-- V-C2. -/
theorem test_csum_of_123456789 :
    outcomeOf (exec .csum (testState [0x31, 0x32, 0x33, 0x34, 0x35, 0x36, 0x37, 0x38, 0x39])) =
      some (0x00, [0x37, 0x4B]) := by decide +kernel
/-- V-C4, the last three-byte input. -/
theorem test_csum_of_three_bytes :
    outcomeOf (exec .csum (testState [0x01, 0x83, 0x02])) = some (0x00, [0xC0, 0xF1]) := by decide +kernel
/-- V-C6: the two splits of the table. -/
theorem test_checksum_swapped_split :
    (checksum lowTableContents highTableContents [0x31]).bytes = [0x6B, 0x81] ∧
    (checksumBitwise [0x31]).bytes = [0x7E, 0x94] := by decide +kernel
/-- V-C8. -/
theorem test_crcTableEntry_one : crcTableEntry 0x01 = 0xC0C1 := by decide

/-! ### Symmetric Packet Cipher, under the spec's test cipher `TOY` -/

/-- Part 0: `T_KEY`. -/
def tKey : Bytes 16 :=
  ⟨[0x00, 0x01, 0x02, 0x03, 0x04, 0x05, 0x06, 0x07, 0x08, 0x09, 0x0A, 0x0B, 0x0C, 0x0D, 0x0E, 0x0F], rfl⟩
/-- Part 0: `T_IV`. -/
def tIv : Block :=
  ⟨[0xF0, 0xF1, 0xF2, 0xF3, 0xF4, 0xF5, 0xF6, 0xF7, 0xF8, 0xF9, 0xFA, 0xFB, 0xFC, 0xFD, 0xFE, 0xFF], rfl⟩
/-- Part 0: `T_SECRET`. -/
def tSecret : Bytes 16 :=
  ⟨[0xA0, 0xA1, 0xA2, 0xA3, 0xA4, 0xA5, 0xA6, 0xA7, 0xA8, 0xA9, 0xAA, 0xAB, 0xAC, 0xAD, 0xAE, 0xAF], rfl⟩
/-- The same continuation, on bytes the kernel has brought to numerals. -/
def onNumerals {α : Type} : List Byte → (List Byte → α) → α
  | [], k => k []
  | b :: rest, k =>
    Nat.rec (onNumerals rest fun l => k (0 :: l)) (fun n _ => onNumerals rest fun l => k (BitVec.ofNat 8 (n + 1) :: l))
      b.toNat

/-- A block from its bytes, evaluated. -/
def evaluated (x : Block) : Block :=
  onNumerals x.bytes fun l => (Bytes.ofList? 16 l).getD (Bytes.replicate 16 0x00)

/-- Part 0: `TOY_E` under `T_KEY`. -/
def toyE (x : Block) : Block :=
  evaluated (Bytes.ofFn fun i =>
    (x.at ((i.val + 1) % 16) (by omega) ^^^ tKey.at i.val i.isLt) + BitVec.ofNat 8 i.val)
/-- Part 0: `TOY_D` under `T_KEY`. -/
def toyD (y : Block) : Block :=
  evaluated (Bytes.ofFn fun j =>
    (y.at ((j.val + 15) % 16) (by omega) - BitVec.ofNat 8 ((j.val + 15) % 16)) ^^^
      tKey.at ((j.val + 15) % 16) (by omega))

/-- Part 0: the worked block. -/
theorem test_toyE_worked_block :
    (toyE tKey).bytes = [0x01, 0x04, 0x03, 0x0A, 0x05, 0x08, 0x07, 0x16, 0x09, 0x0C, 0x0B, 0x12, 0x0D, 0x10, 0x0F,
      0x1E] ∧ toyD (toyE tKey) = tKey := by decide +kernel

/-- V-E4, with the dropped block. -/
theorem test_encrypt_toy :
    (encrypt48 toyE tIv (tKey.append (Bytes.ofFn fun i => BitVec.ofNat 8 (16 + i.val) : Bytes 16))).bytes =
      [0xF0, 0xF2, 0xF4, 0xF6, 0xF8, 0xFA, 0xFC, 0xFE, 0x00, 0x02, 0x04, 0x06, 0x08, 0x0A, 0x0C, 0x0E] ++
      [0xE3, 0xE8, 0xE9, 0xF2, 0xEF, 0xF4, 0xF5, 0x26, 0x1B, 0x20, 0x21, 0x2A, 0x27, 0x2C, 0x2D, 0xFE] ++
      [0xF8, 0xF9, 0xE2, 0xFF, 0xE4, 0xE5, 0x36, 0x13, 0x40, 0x41, 0x3A, 0x47, 0x3C, 0x3D, 0xEE, 0x0B] := by
  decide +kernel

/-- V-E6, with the rebuilt block. -/
theorem test_decrypt_toy :
    (encryptedPad toyE (Bytes.replicate 32 0x00)).bytes =
      [0x10, 0x12, 0x14, 0x16, 0x18, 0x1A, 0x1C, 0x1E, 0x20, 0x22, 0x24, 0x26, 0x28, 0x2A, 0x2C, 0x2E] ∧
    (decryptWith toyE toyD tIv (Bytes.replicate 32 0x00)).bytes =
      [0x0E, 0xF1, 0x0C, 0x0F, 0x0A, 0x0D, 0x08, 0x0B, 0x06, 0x09, 0x04, 0x07, 0x02, 0x05, 0x00, 0x03] ++
      [0xFE, 0x00, 0xFE, 0xFC, 0xFE, 0xF8, 0xFE, 0xFC, 0xFE, 0xF0, 0xFE, 0xFC, 0xFE, 0xF8, 0xFE, 0xFC] := by
  decide +kernel

/-- V-E8. -/
theorem test_enc_of_31_bytes : outcomeOf (exec .enc (testState (List.replicate 31 0x00))) = some (0x01, []) := by
  decide +kernel
/-- V-E8. -/
theorem test_dec_of_48_bytes : outcomeOf (exec .dec (testState (List.replicate 48 0x00))) = some (0x01, []) := by
  decide +kernel

/-! ### Packet Builder -/

/-- V-B4. -/
theorem test_build_toy :
    (encryptWith toyE tIv (requestPlaintext 0x65920080 tSecret (setPowerCommand true)
      (checksum highTableContents lowTableContents (setPowerCommand true).bytes))).bytes =
      [0x63, 0xF4, 0x73, 0x5A, 0x54, 0x56, 0x58, 0x62, 0x5C, 0x5E, 0x60, 0x6A, 0x64, 0x66, 0x68, 0xA9] ++
      [0x59, 0xDD, 0xF9, 0x59, 0x58, 0x63, 0x7E, 0x62, 0x5F, 0xE9, 0xF2, 0x76, 0x7A, 0x6E, 0xB1, 0xCF] := by
  decide +kernel
/-- V-B7: a seventh byte is not cut off. -/
theorem test_build_of_seven_bytes :
    outcomeOf (exec .build (testState [0x01, 0x06, 0x03, 0x1C, 0x00, 0x01, 0x00])) = some (0x01, []) := by
  decide +kernel

/-! ### Response Parser -/

/-- V-P1 under `TOY`. -/
theorem test_parse_toy :
    (serialise (classify (deviceResponseWindow (decryptWith toyE toyD tIv ⟨
      [0x63, 0xF4, 0x72, 0x5A, 0x54, 0x56, 0x58, 0x62, 0x5C, 0x5E, 0x60, 0x6A, 0x64, 0x66, 0x68, 0xA9] ++
      [0x59, 0xDE, 0xF9, 0x59, 0x55, 0x64, 0x6A, 0x93, 0x5E, 0x72, 0xAC, 0x6F, 0x75, 0x73, 0xB2, 0xCF],
      rfl⟩)))).bytes = [0x01, 0x03, 0x02, 0x02, 0x02, 0x00, 0xD7, 0x00, 0x00] := by decide +kernel
/-- V-P15: a truncated notification. -/
theorem test_parse_of_31_bytes : outcomeOf (exec .parse (testState (List.replicate 31 0x00))) = some (0x01, []) := by
  decide +kernel
/-- V-P9. -/
theorem test_respError_raw_FF :
    outcomeOf (exec (.respError 0x02 0x7F 0x0B 0x01 0x02 0x03 0x04) (testState [])) =
      some (0x00, [0x02, 0x7F, 0x01, 0x00, 0x01, 0x0B, 0x00, 0x00, 0x00]) := by decide +kernel
/-- V-P7: the data are cut at the end of the window. -/
theorem test_respRead_cut :
    outcomeOf (exec (.respRead 0x01 0xFF 0x11 0x22 0x33 0x44) (testState [])) =
      some (0x00, [0x01, 0x03, 0x02, 0xFF, 0x04, 0x11, 0x22, 0x33, 0x44]) := by decide +kernel
/-- V-P4: no data at all. -/
theorem test_respRead_empty :
    outcomeOf (exec (.respRead 0x01 0x00 0xAA 0xBB 0xCC 0xDD) (testState [])) =
      some (0x00, [0x01, 0x03, 0x02, 0x00, 0x00, 0x00, 0x00, 0x00, 0x00]) := by decide +kernel
/-- V-P8. -/
theorem test_respEcho_other_code :
    outcomeOf (exec (.respEcho 0x11 0x10 0xDE 0xAD 0xBE 0xEF 0x99) (testState [])) =
      some (0x00, [0x11, 0x10, 0x00, 0x00, 0x04, 0xDE, 0xAD, 0xBE, 0xEF]) := by decide +kernel

/-! ### Command catalog -/

/-- V-K8. -/
theorem test_readRegister_FFFF :
    hostOf (exec (.readRegister 0xFFFF) (testState [])) =
      some (.command ⟨[0x01, 0x03, 0xFF, 0xFF, 0x00, 0x01], rfl⟩) := by decide +kernel
/-- V-K8. -/
theorem test_readPower :
    hostOf (exec .readPower (testState [])) = some (.command ⟨[0x01, 0x03, 0x05, 0x29, 0x00, 0x01], rfl⟩) := by
  decide +kernel
/-- V-K8. -/
theorem test_readPowerLevel :
    hostOf (exec .readPowerLevel (testState [])) = some (.command ⟨[0x01, 0x03, 0x05, 0x29, 0x00, 0x01], rfl⟩) := by
  decide +kernel
/-- V-K8. -/
theorem test_readAmbientTemperature :
    hostOf (exec .readAmbientTemperature (testState [])) =
      some (.command ⟨[0x01, 0x03, 0x05, 0x25, 0x00, 0x01], rfl⟩) := by decide +kernel
/-- V-K1. -/
theorem test_setPower_true :
    hostOf (exec (.setPower true) (testState [])) = some (.command ⟨[0x01, 0x06, 0x03, 0x1C, 0x00, 0x01], rfl⟩) := by
  decide +kernel
/-- V-K2: 25.6 degrees, where the value's low byte is zero. -/
theorem test_setTemperature_carries :
    hostOf (exec (.setTemperature ⟨256, 1⟩) (testState [])) =
      some (.command ⟨[0x01, 0x06, 0x05, 0x25, 0x01, 0x00], rfl⟩) := by decide +kernel
/-- V-K9. -/
theorem test_setTemperature_below_zero :
    exec (.setTemperature ⟨-1, 1⟩) (testState []) = .refused .temperatureOutOfRange := by rfl
/-- V-K3. -/
theorem test_setPowerLevel_five :
    hostOf (exec (.setPowerLevel 5) (testState [])) = some (.command ⟨[0x01, 0x06, 0x04, 0x40, 0x00, 0x05], rfl⟩) := by
  decide +kernel
/-- V-K3: `STATUS` keeps what it was. -/
theorem test_setPowerLevel_zero :
    (nextOf (exec (.setPowerLevel 0) (testState []))).map (fun s => (s.hostResult, s.status)) =
      some (.validationError, 0x03) := by decide +kernel
/-- V-K4. -/
theorem test_setFan1Speed_five :
    hostOf (exec (.setFan1Speed 5) (testState [])) = some (.command ⟨[0x01, 0x06, 0x05, 0x4B, 0x00, 0x05], rfl⟩) := by
  decide +kernel
/-- V-K4. -/
theorem test_setFan1Speed_six : hostOf (exec (.setFan1Speed 6) (testState [])) = some .validationError := by
  decide +kernel
/-- V-K5. -/
theorem test_setFan2Speed_zero :
    hostOf (exec (.setFan2Speed 0) (testState [])) = some (.command ⟨[0x01, 0x06, 0x05, 0x4D, 0x00, 0x00], rfl⟩) := by
  decide +kernel
/-- V-K5. -/
theorem test_setFan2Speed_six : hostOf (exec (.setFan2Speed 6) (testState [])) = some .validationError := by
  decide +kernel
/-- V-K6. -/
theorem test_setAutoMode_true :
    hostOf (exec (.setAutoMode true) (testState [])) =
      some (.command ⟨[0x01, 0x06, 0x04, 0x43, 0x00, 0x01], rfl⟩) := by decide +kernel
/-- V-K7. -/
theorem test_setStandby_false :
    hostOf (exec (.setStandby false) (testState [])) =
      some (.command ⟨[0x01, 0x06, 0x04, 0x44, 0x00, 0x00], rfl⟩) := by decide +kernel

/-! ### Value decoders -/

/-- V-D1: only the low byte counts. -/
theorem test_boolean_FF01 :
    hostOf (runDecoder .boolean (recordState (readRecord 0x01 0x02 0xFF 0x01 0x00 0x00))) =
      some (.value (.boolean true)) := by decide +kernel
/-- V-D2. -/
theorem test_temperature_00D7 :
    hostOf (runDecoder .temperature (recordState (readRecord 0x01 0x02 0x00 0xD7 0x00 0x00))) =
      some (.value (.temperature ⟨215, 1⟩)) := by decide +kernel
/-- V-D8: a write echo gives the register address. -/
theorem test_number_of_an_echo :
    hostOf (runDecoder .number (recordState (echoRecord 0x01 0x06 0x03 0x1C 0x00 0x01))) =
      some (.value (.number 796)) := by decide +kernel
/-- V-D4. -/
theorem test_powerLevel_clamps :
    hostOf (runDecoder .powerLevel (recordState (readRecord 0x01 0x02 0x00 0x82 0x00 0x00))) =
      some (.value (.powerLevel 5)) ∧
    hostOf (runDecoder .powerLevel (recordState (readRecord 0x01 0x02 0x00 0x00 0x00 0x00))) =
      some (.value (.powerLevel 1)) ∧
    hostOf (runDecoder .powerLevel (recordState (readRecord 0x01 0x02 0xFF 0x03 0x00 0x00))) =
      some (.value (.powerLevel 3)) := by decide +kernel
/-- V-D5. -/
theorem test_decoder_of_an_error :
    hostOf (runDecoder .number (recordState (errorRecord 0x01 0x83 0x02))) = some (.protocolError 0x02) := by
  decide +kernel
/-- V-D7. -/
theorem test_decoder_of_an_empty_reply :
    runDecoder .boolean (recordState (readRecord 0x01 0x00 0xAA 0xBB 0xCC 0xDD)) = .refused .shortRecord := by rfl
/-- No record stands on `OUT` after reset. -/
theorem test_decoder_after_reset : runDecoder .boolean State.reset = .fault .noRecordOnOut := by rfl

/-! ### The interface -/

/-- V-I3: the length is not examined. -/
theorem test_illegalOp_FF :
    outcomeOf (step (State.reset.request (.operation 0xFF (List.replicate 32 0x00) 0))) = some (0x03, []) := by
  decide +kernel
/-- R54, V-C4: an issued `CSUM` reports nothing until the step after, while the next request waits. -/
theorem test_issue_then_outcome :
    outcomeOf (step ((testState []).request (.issue 0x01 [0x00] 0))) = some (0x03, []) ∧
    (nextOf (step (((testState []).request (.window (Bytes.replicate 7 0x00))).request (.issue 0x01 [0x00] 0)))).bind
      (fun t => outcomeOf (step t)) = some (0x00, [0xBF, 0x40]) := by decide +kernel
/-- R211: a reset in the middle of the `CSUM` abandons it with no output. -/
theorem test_reset_abandons :
    (nextOf (step (((testState []).request .reset).request (.issue 0x01 [0x00] 0)))).bind
      (fun t => outcomeOf (step t)) = some (0x00, []) := by decide +kernel
/-- V-I1. -/
theorem test_reset_status : State.reset.status = 0x00 ∧ State.reset.outLen = 0 := by decide +kernel

/-! ### Witnesses: states and operands that meet the hypotheses of the statements -/

/-- A state of the invariant whose next request is a `CSUM`. -/
def csumPending : State := { State.reset with pending := [.operation 0x01 [0x00] 0] }

theorem witness_inv (requests : List Request) : Inv { State.reset with pending := requests } where
  constants := rfl
  status := .inl rfl
  out := ⟨fun _ => rfl, .inl rfl, by simp [State.outLen, State.reset]⟩
  hostResult := trivial

/-- A state of the invariant with an empty read reply on `OUT` and a decoder as the next request. -/
def emptyReplyPending : State :=
  { recordState (readRecord 0x01 0x00 0xAA 0xBB 0xCC 0xDD) with pending := [.decoder .number] }

theorem witness_inv_record : Inv emptyReplyPending where
  constants := rfl
  status := .inl rfl
  out := ⟨fun h => absurd rfl h, .inr (.inr (.inl rfl)),
    fun _ => ⟨readRecord 0x01 0x00 0xAA 0xBB 0xCC 0xDD,
      by refine ⟨by decide, by decide, by decide, ?_, by decide⟩; intro n h; cases h; rfl, rfl⟩⟩
  hostResult := trivial

theorem witness_ResetRequestClearsTheOutcome :
    ({ csumPending with busy := true, pending := [.reset, .reset] } : State).busy = true ∧
    ({ csumPending with busy := true, pending := [.reset, .reset] } : State).pending = .reset :: [.reset] := ⟨rfl, rfl⟩

theorem witness_BlockWithoutRequestDoesNothing :
    emptyReplyPending.busy = false ∧ { emptyReplyPending with pending := [] }.pending = [] := ⟨rfl, rfl⟩

theorem witness_EveryStepKeepsInvariant : Inv csumPending ∧ ∃ t, step csumPending = .next t :=
  ⟨witness_inv _, _, rfl⟩

theorem witness_NoStepChangesConstants :
    ∃ t, step (State.reset.request (.call .build 0xFFFFFFFF)) = .next t := ⟨_, rfl⟩

theorem witness_StepRunsTheDecodedInstruction :
    decode [0x05] = .ok .parse ∧
    decode (⟨[0x01, 0x06, 0x04, 0x40, 0x00, 0x00], rfl⟩ : Bytes 6).bytes = .ok (.setPowerLevel 0) ∧
    decode (⟨[0xFF, 0x80, 0x00, 0x00, 0x00, 0x00, 0xFF], rfl⟩ : Bytes 7).bytes = .ok (.respError 0xFF 0 0 0 0 0 0xFF) ∧
    decodeTableWord 8 0x01 = some .csum ∧
    decodeTableWord 48 0x01060525FFFF = some (.setTemperature ⟨65535, 1⟩) ∧
    decodeTableWord 56 0xFFFFFFFFFFFFFF = some (.respError 0xFF 0x7F 0xFF 0xFF 0xFF 0xFF 0xFF) ∧
    State.reset.pending.head? ≠ some .reset ∧ (csumPending.request (.decoder .number)).pending.head? ≠ some .reset :=
  ⟨rfl, rfl, rfl, rfl, rfl, rfl, by decide, by decide⟩

theorem witness_ReservedOpReportsIllegalOp :
    ∀ op ∈ ([0x00, 0x06, 0xFF] : List Byte), op ≠ 0x01 ∧ op ≠ 0x02 ∧ op ≠ 0x03 ∧ op ≠ 0x04 ∧ op ≠ 0x05 := by decide

theorem witness_WrongLengthReportsValidationError :
    (∀ n ∈ [0, 31, 33], (testState (List.replicate n 0x00)).inLen ≠ 32) ∧
    (∀ n ∈ [0, 5, 7], (testState (List.replicate n 0x00)).inLen ≠ 6) := by decide +kernel

theorem witness_TransactionOutcomeIgnoresHistory :
    emptyReplyPending.constants = State.reset.constants ∧ emptyReplyPending.out ≠ State.reset.out :=
  ⟨rfl, by decide +kernel⟩

theorem witness_OnlyTheseRequestsStop :
    (Inv { State.reset with pending := [.decoder .number] } ∧
      step { State.reset with pending := [.decoder .number] } = .fault .noRecordOnOut) ∧
    (Inv emptyReplyPending ∧ step emptyReplyPending = .refused .shortRecord) ∧
    (Inv { State.reset with pending := [.catalogWord ⟨[0, 0, 0, 0, 0, 0], rfl⟩ 0] } ∧
      step { State.reset with pending := [.catalogWord ⟨[0, 0, 0, 0, 0, 0], rfl⟩ 0] } = .refused .noSuchCommand) ∧
    (Inv { State.reset with pending := [.call (.setTemperature ⟨65536, 1⟩) 0] } ∧
      step { State.reset with pending := [.call (.setTemperature ⟨65536, 1⟩) 0] } =
        .refused .temperatureOutOfRange) :=
  ⟨⟨witness_inv _, rfl⟩, ⟨witness_inv_record, rfl⟩, ⟨witness_inv _, rfl⟩, ⟨witness_inv _, rfl⟩⟩

theorem witness_BlockInstructionsWriteOnlyTheOutcome :
    (BlockInstr .csum ∧ ∃ t, exec .csum State.reset = .next t) ∧
    (BlockInstr .enc ∧ ∃ t, exec .enc State.reset = .next t) ∧
    (BlockInstr .dec ∧ ∃ t, exec .dec State.reset = .next t) ∧
    (BlockInstr .build ∧ ∃ t, exec .build State.reset = .next t) ∧
    (BlockInstr .parse ∧ ∃ t, exec .parse State.reset = .next t) ∧
    (BlockInstr (.respError 1 2 3 4 5 6 7) ∧ ∃ t, exec (.respError 1 2 3 4 5 6 7) State.reset = .next t) ∧
    (BlockInstr (.respRead 1 2 3 4 5 6) ∧ ∃ t, exec (.respRead 1 2 3 4 5 6) State.reset = .next t) ∧
    (BlockInstr (.respEcho 1 2 3 4 5 6 7) ∧ ∃ t, exec (.respEcho 1 2 3 4 5 6 7) State.reset = .next t) :=
  ⟨⟨trivial, _, rfl⟩, ⟨trivial, _, rfl⟩, ⟨trivial, _, rfl⟩, ⟨trivial, _, rfl⟩, ⟨trivial, _, rfl⟩, ⟨trivial, _, rfl⟩,
    ⟨trivial, _, rfl⟩, ⟨trivial, _, rfl⟩⟩

theorem witness_BuildersWriteOnlyTheirTransaction :
    (¬ BlockInstr (.setFan1Speed 5) ∧ ∃ t, exec (.setFan1Speed 5) State.reset = .next t) ∧
    (¬ BlockInstr (.setFan1Speed 6) ∧ ∃ t, exec (.setFan1Speed 6) State.reset = .next t) :=
  ⟨⟨id, _, rfl⟩, ⟨id, _, rfl⟩⟩

/-- The machine after reset with another key, initialisation vector and secret: `T_KEY`, `T_IV` and `T_SECRET`. -/
def otherSecrets (operand : List Byte) : State :=
  { testState operand with
    constants := { fixedConstants with key := tKey, iv := tIv, secret := tSecret } }

/-- The same with the tables exchanged. -/
def otherTables (operand : List Byte) : State :=
  { testState operand with
    constants := { fixedConstants with highTable := lowTableContents, lowTable := highTableContents } }

theorem witness_EachOperationReadsOnlyItsInputs :
    ((otherSecrets [0x31]).inp = (testState [0x31]).inp ∧
      (otherSecrets [0x31]).constants.highTable = (testState [0x31]).constants.highTable ∧
      (otherSecrets [0x31]).constants.lowTable = (testState [0x31]).constants.lowTable) ∧
    ((otherTables (List.replicate 32 0x00)).inp = (testState (List.replicate 32 0x00)).inp ∧
      (otherTables (List.replicate 32 0x00)).constants.key = (testState (List.replicate 32 0x00)).constants.key ∧
      (otherTables (List.replicate 32 0x00)).constants.iv = (testState (List.replicate 32 0x00)).constants.iv) ∧
    ({ testState [0, 1, 2, 3, 4, 5] with out := [0x09] }.constants = (testState [0, 1, 2, 3, 4, 5]).constants ∧
      { testState [0, 1, 2, 3, 4, 5] with out := [0x09] }.time = (testState [0, 1, 2, 3, 4, 5]).time) :=
  ⟨⟨rfl, rfl, rfl⟩, ⟨rfl, rfl, rfl⟩, ⟨rfl, rfl⟩⟩

/-- The tables meet the hypothesis of the third clause on every byte. -/
theorem witness_OneByteInputsForceTheTables :
    ∀ b : Byte, checksum highTableContents lowTableContents [b] = checksumBitwise [b] := by decide +kernel

theorem witness_ChecksumAgreesWithBitShiftingForm : lowTableContents ≠ highTableContents := by decide +kernel

theorem witness_CsumReturnsTheBitShiftingCrc : Inv csumPending := witness_inv _

theorem witness_cipher_operand :
    (testState (Bytes.replicate 32 0xFF).bytes).inp = (Bytes.replicate 32 0xFF : Bytes 32).bytes := rfl

theorem witness_build_operand :
    (testState (setPowerCommand false).bytes).inp = (setPowerCommand false).bytes ∧
    (testState (Bytes.replicate 6 0xFF).bytes).inp = (Bytes.replicate 6 0xFF : Bytes 6).bytes := ⟨rfl, rfl⟩

/-- Two states of one second that differ elsewhere, with the same command and so the same packet. -/
theorem witness_BuiltPacketDecryptsToItsEnvelope :
    (recordState (errorRecord 1 2 3)).constants = State.reset.constants ∧
    (recordState (errorRecord 1 2 3)).buildPacket (setPowerCommand true) =
      State.reset.buildPacket (setPowerCommand true) := ⟨rfl, State.buildPacket_congr rfl rfl _⟩

theorem witness_SameSecondSameFirstBlock :
    (testState (setPowerCommand true).bytes).inp = (setPowerCommand true).bytes ∧
    (testState (setPowerCommand false).bytes).inp = (setPowerCommand false).bytes ∧
    (testState (setPowerCommand false).bytes).constants = (testState (setPowerCommand true).bytes).constants ∧
    (testState (setPowerCommand false).bytes).time = (testState (setPowerCommand true).bytes).time :=
  ⟨rfl, rfl, rfl, rfl⟩

/-- A ciphertext whose second plaintext block is the given one, whatever the block cipher is. -/
def cipherOf (block1 : Block) : Bytes 32 :=
  (Bytes.replicate 16 0x00 : Block).append (blockEncrypt fixedConstants.key (block1.xor (Bytes.replicate 16 0x00)))

theorem closedDecrypt_cipherOf (block1 : Block) :
    (closedDecrypt (blockDecrypt fixedConstants.key) fixedConstants.iv (cipherOf block1)).slice 16 16 (by omega) =
      block1 := by
  have h0 : (cipherOf block1).slice 0 16 (by omega) = Bytes.replicate 16 0x00 := Bytes.slice_append_left _ _ _
  have h1 : (cipherOf block1).slice 16 16 (by omega) =
      blockEncrypt fixedConstants.key (block1.xor (Bytes.replicate 16 0x00)) := Bytes.slice_append_right _ _ _
  unfold closedDecrypt
  rw [h0, h1]
  refine (Bytes.slice_append_right _ _ _).trans ?_
  simp [blockDecrypt, blockEncrypt]

/-- The second block of a notification with the given window. -/
def windowBlock (b0 b1 b2 b3 b4 b5 b6 : Byte) : Block :=
  ⟨[0xAC, 0xAD, 0xAE, 0xAF, b0, b1, b2, b3, b4, b5, b6, 0x00, 0x00, 0x03, 0x03, 0x03], rfl⟩

theorem windowByte_cipherOf (block1 : Block) (i : Fin 7) :
    windowByte (closedDecrypt (blockDecrypt fixedConstants.key) fixedConstants.iv (cipherOf block1)) i =
      block1.at (4 + i.val) (by omega) := by
  have h := closedDecrypt_cipherOf block1
  generalize closedDecrypt (blockDecrypt fixedConstants.key) fixedConstants.iv (cipherOf block1) = p at h
  subst h
  simp [windowByte, Bytes.at, Bytes.slice, List.getElem_take, List.getElem_drop]
  congr 1; omega

/-- Each class of `PARSE` at the ends of its range: raw codes `0x80`, `0xFF`; `0x03` with counts 0, 4 and 255;
`0x00`, `0x02`, `0x04` and `0x7F`. -/
theorem witness_ParseClassifiesTheWindow :
    (∀ c : Bytes 32, (testState c.bytes).inp = c.bytes) ∧
    (∀ raw ∈ ([0x80, 0xFF] : List Byte),
      ((windowByte (closedDecrypt (blockDecrypt fixedConstants.key) fixedConstants.iv
        (cipherOf (windowBlock 0x01 raw 0x02 0 0 0 0))) 1).getLsbD 7 = true)) ∧
    (∀ n ∈ ([0x00, 0x04, 0xFF] : List Byte),
      windowByte (closedDecrypt (blockDecrypt fixedConstants.key) fixedConstants.iv
        (cipherOf (windowBlock 0x01 0x03 n 0 0 0 0))) 1 = 0x03) ∧
    (∀ raw ∈ ([0x00, 0x02, 0x04, 0x7F] : List Byte),
      ((windowByte (closedDecrypt (blockDecrypt fixedConstants.key) fixedConstants.iv
        (cipherOf (windowBlock 0x01 raw 0x02 0 0 0 0))) 1).getLsbD 7 = false) ∧
      windowByte (closedDecrypt (blockDecrypt fixedConstants.key) fixedConstants.iv
        (cipherOf (windowBlock 0x01 raw 0x02 0 0 0 0))) 1 ≠ 0x03) := by
  refine ⟨fun _ => rfl, ?_, ?_, ?_⟩ <;> simp only [windowByte_cipherOf] <;> decide +kernel

theorem witness_ParseDependsOnTheWindowOnly :
    (testState (cipherOf tIv).bytes).inp = (cipherOf tIv).bytes ∧
    ({ testState (cipherOf tIv).bytes with out := [0x09] } : State).inp = (cipherOf tIv).bytes ∧
    deviceResponseWindow (State.decrypt { testState (cipherOf tIv).bytes with out := [0x09] } (cipherOf tIv)) =
      deviceResponseWindow ((testState (cipherOf tIv).bytes).decrypt (cipherOf tIv)) :=
  ⟨rfl, rfl, congrArg deviceResponseWindow (State.decrypt_congr rfl _)⟩

theorem witness_ParseAcceptsEveryPlaintext :
    (testState (State.reset.encrypt (tIv.append tKey)).bytes).inp =
      ((testState (State.reset.encrypt (tIv.append tKey)).bytes).encrypt (tIv.append tKey)).bytes :=
  congrArg Bytes.bytes (State.encrypt_congr rfl _)

theorem witness_RecordInvariantOfEveryWindow :
    (classify ⟨[0x01, 0x80, 0x00, 0, 0, 0, 0], rfl⟩).isError = true ∧
    (classify ⟨[0x01, 0xFF, 0x0B, 0, 0, 0, 0], rfl⟩).isError = true ∧
    (classify ⟨[0x01, 0x7F, 0x0B, 0, 0, 0, 0], rfl⟩).isError = false := by decide +kernel

theorem witness_SerialisedRecordReadsBack :
    (readRecord 0x01 0x00 1 2 3 4).data.length = 0 ∧ (errorRecord 0x01 0x83 0x02).data.length = 1 ∧
    (readRecord 0x01 0xFF 1 2 3 4).data.length = 4 := by decide +kernel

theorem witness_WindowInstructionsReturnTheirRecord :
    (0x00#7 : BitVec 7) ≠ 0x03#7 ∧ (0x02#7 : BitVec 7) ≠ 0x03#7 ∧ (0x04#7 : BitVec 7) ≠ 0x03#7 ∧
    (0x7F#7 : BitVec 7) ≠ 0x03#7 := by decide +kernel

theorem witness_ParseOfABuiltCommand :
    (testState [0x01, 0x03, 0x00, 0x00, 0x00, 0x01]).inp = [0x01, 0x03, 0x00, 0x00, 0x00, 0x01] ∧
    (testState [0x01, 0x03, 0xFF, 0xFF, 0x00, 0x01]).inp = [0x01, 0x03, 0xFF, 0xFF, 0x00, 0x01] ∧
    (testState [0x01, 0x06, 0xFF, 0x00, 0x00, 0xFF]).inp = [0x01, 0x06, 0xFF, 0x00, 0x00, 0xFF] := ⟨rfl, rfl, rfl⟩

/-- The ends of the range, one below, one above, a value that is no whole number of tenths, the tie of V-K10, and the ties
at -0.15, -0.05, 0.05, 6553.45, 6553.55 and 6553.65. -/
theorem witness_SetTemperatureWritesTheNearestTenth :
    (2 * |(0 : Int) * 10 - 0 * 10 ^ 1| < 10 ^ 1 ∧ (0 : Int) ≤ 0 ∧ (0 : Int) ≤ 65535) ∧
    (2 * |(65535 : Int) * 10 - 65535 * 10 ^ 1| < 10 ^ 1 ∧ (0 : Int) ≤ 65535 ∧ (65535 : Int) ≤ 65535) ∧
    (2 * |(2154 : Int) * 10 - 215 * 10 ^ 2| < 10 ^ 2) ∧
    (2 * |(-1 : Int) * 10 - (-1) * 10 ^ 1| < 10 ^ 1 ∧ ¬ ((0 : Int) ≤ -1 ∧ (-1 : Int) ≤ 65535)) ∧
    (2 * |(65536 : Int) * 10 - 65536 * 10 ^ 1| < 10 ^ 1 ∧ ¬ ((0 : Int) ≤ 65536 ∧ (65536 : Int) ≤ 65535)) ∧
    (2 * ((2155 : Int) * 10 - 215 * 10 ^ 2) = 10 ^ 2) ∧
    (2 * ((-15 : Int) * 10 - (-2) * 10 ^ 2) = 10 ^ 2) ∧
    (2 * ((-5 : Int) * 10 - (-1) * 10 ^ 2) = 10 ^ 2) ∧
    (2 * ((5 : Int) * 10 - 0 * 10 ^ 2) = 10 ^ 2) ∧
    (2 * ((655345 : Int) * 10 - 65534 * 10 ^ 2) = 10 ^ 2) ∧
    (2 * ((655355 : Int) * 10 - 65535 * 10 ^ 2) = 10 ^ 2) ∧
    (2 * ((655365 : Int) * 10 - 65536 * 10 ^ 2) = 10 ^ 2) := by norm_num

theorem witness_RangedBuildersCheckTheirArgument :
    ((1 : Int) ≤ 1 ∧ (1 : Int) ≤ 5) ∧ ((1 : Int) ≤ 5 ∧ (5 : Int) ≤ 5) ∧ ((0 : Int) < 1) ∧ ((5 : Int) < 6) ∧
    ((0 : Int) ≤ 0 ∧ (0 : Int) ≤ 5) ∧ ((-1 : Int) < 0) := by decide +kernel

theorem witness_DecodersRaiseProtocolError :
    (recordState (errorRecord 0x01 0x83 0x00)).out = (serialise (errorRecord 0x01 0x83 0x00)).bytes ∧
    (errorRecord 0x01 0x83 0x00).isError = true ∧ (errorRecord 0x01 0x83 0x00).data = [0x00] := ⟨rfl, rfl, rfl⟩

theorem witness_DecodersReadTheFirstTwoBytes :
    ((recordState (readRecord 0x01 0x02 0xFF 0x03 1 2)).out = (serialise (readRecord 0x01 0x02 0xFF 0x03 1 2)).bytes ∧
      (readRecord 0x01 0x02 0xFF 0x03 1 2).isError = false ∧
      (readRecord 0x01 0x02 0xFF 0x03 1 2).data = 0xFF :: 0x03 :: []) ∧
    ((recordState (echoRecord 0x01 0x06 0x03 0x1C 0 1)).out = (serialise (echoRecord 0x01 0x06 0x03 0x1C 0 1)).bytes ∧
      (echoRecord 0x01 0x06 0x03 0x1C 0 1).isError = false ∧
      (echoRecord 0x01 0x06 0x03 0x1C 0 1).data = 0x03 :: 0x1C :: [0x00, 0x01]) :=
  ⟨⟨rfl, rfl, rfl⟩, ⟨rfl, rfl, rfl⟩⟩

theorem witness_DecodersRefuseShortRecords :
    ∀ n ∈ ([0x00, 0x01] : List Byte),
      (recordState (readRecord 0x01 n 1 2 3 4)).out = (serialise (readRecord 0x01 n 1 2 3 4)).bytes ∧
      (readRecord 0x01 n 1 2 3 4).isError = false ∧ (readRecord 0x01 n 1 2 3 4).data.length < 2 := by
  decide +kernel

theorem witness_DecodersAsFunctionsOfTheRecord :
    ((errorRecord 0x01 0x83 0x02).isError = true ∧ (errorRecord 0x01 0x83 0x02).data = [0x02]) ∧
    ((readRecord 0x01 0x04 0x00 0x06 3 4).isError = false ∧
      (readRecord 0x01 0x04 0x00 0x06 3 4).data = 0x00 :: 0x06 :: [0x03, 0x04]) ∧
    ((readRecord 0x01 0x00 1 2 3 4).isError = false ∧ (readRecord 0x01 0x00 1 2 3 4).data.length < 2) ∧
    ((readRecord 0x01 0x01 1 2 3 4).isError = false ∧ (readRecord 0x01 0x01 1 2 3 4).data.length < 2) := by decide +kernel

/-- One well-formed instruction of each family, at the ends of its fields. -/
theorem witness_DecodeOfEncodeGivesTheInstruction :
    ∀ i ∈ ([.csum, .enc, .dec, .build, .parse, .respError 0xFF 0x7F 0xFF 0 0 0 0, .respRead 0 0xFF 0 0 0 0xFF,
        .respEcho 0 0x02 0 0 0 0xFF 0, .readRegister 0x0528, .readPower, .readAmbientTemperature, .setPower true,
        .setTemperature ⟨0, 1⟩, .setTemperature ⟨65535, 1⟩, .setPowerLevel 7, .setFan1Speed 0, .setFan2Speed 7,
        .setAutoMode false, .setStandby true] : List Instr),
      i.WellFormed ∧ i ≠ .readPowerLevel ∧ i ≠ .readRegister 0x0529 ∧ i ≠ .readRegister 0x0525 := by
  decide +kernel

theorem witness_EncodeOfDecodeGivesTheWord :
    decode [0x05] = .ok .parse ∧
    decode [0x00, 0x00, 0x01, 0x02, 0x03, 0x04, 0x05] = .ok (.respEcho 0 0 0x01 0x02 0x03 0x04 0x05) ∧
    decode [0x01, 0x03, 0xFF, 0xFF, 0x00, 0x01] = .ok (.readRegister 0xFFFF) := ⟨rfl, rfl, rfl⟩

end Sys2Proof.Tests
end

section
/-! Proofs of the scope family (00_scope.md): the conversions between numbers and bytes. -/

namespace Sys2Proof

/-- The byte of a bit vector that begins at bit `start` is a base-256 digit of its number. -/
theorem extractLsb'_byte_toNat {w : Nat} (v : BitVec w) (start : Nat) :
    (v.extractLsb' start 8).toNat = v.toNat / 2 ^ start % 256 := by
  rw [BitVec.extractLsb'_toNat, Nat.shiftRight_eq_div_pow]

/-- R14: the two bytes of `be16_bytes(v)` as numbers. -/
theorem be16Bytes_toNat (v : Word16) :
    (be16Bytes v).bytes.map BitVec.toNat = [v.toNat / 256, v.toNat % 256] := by
  simp only [be16Bytes, List.map_cons, List.map_nil, hiByte_toNat, loByte_toNat]

/-- R14: the four bytes of `be32_bytes(v)` as numbers. -/
theorem be32Bytes_toNat (v : Time32) :
    (be32Bytes v).bytes.map BitVec.toNat =
      [v.toNat / 16777216 % 256, v.toNat / 65536 % 256, v.toNat / 256 % 256, v.toNat % 256] := by
  simp only [be32Bytes, List.map_cons, List.map_nil, extractLsb'_byte_toNat]
  norm_num

/-- Settles O7: each conversion of R14 by the lemma that says its bytes as numbers. -/
theorem numberConversionsAreBigEndian : Obligations.NumberConversionsAreBigEndian :=
  ⟨be16_toNat, be16Bytes_toNat, be32Bytes_toNat⟩

end Sys2Proof
end

section
/-! Proofs of the state family (10_state.md): what an instruction can do, what a step leaves of the constants, and
that the outcome of a transaction has no history. -/

namespace Sys2Proof.Machine

/-! ### What an instruction can do -/

/-- R112: `ENC` on an operand of 32 bytes. -/
theorem exec_enc_of_operand {s : State} {p : Bytes 32} (h : packetOperand s.inp = some p) :
    exec .enc s = .next (s.complete (s.encrypt p).bytes) := by
  simp [exec, execEnc, h]

/-- R112: `ENC` on an operand of another length. -/
theorem exec_enc_of_no_operand {s : State} (h : packetOperand s.inp = none) :
    exec .enc s = .next (s.raiseError statusValidationError) := by
  simp [exec, execEnc, h]

/-- R112: `DEC` on an operand of 32 bytes. -/
theorem exec_dec_of_operand {s : State} {c : Bytes 32} (h : packetOperand s.inp = some c) :
    exec .dec s = .next (s.complete (s.decrypt c).bytes) := by
  simp [exec, execDec, h]

/-- R112: `DEC` on an operand of another length. -/
theorem exec_dec_of_no_operand {s : State} (h : packetOperand s.inp = none) :
    exec .dec s = .next (s.raiseError statusValidationError) := by
  simp [exec, execDec, h]

/-- R121: `BUILD` on an operand of six bytes. -/
theorem exec_build_of_operand {s : State} {command : Bytes 6} (h : commandOperand s.inp = some command) :
    exec .build s = .next (s.complete (s.buildPacket command).bytes) := by
  simp [exec, execBuild, State.runBuild, h]

/-- R121: `BUILD` on an operand of another length. -/
theorem exec_build_of_no_operand {s : State} (h : commandOperand s.inp = none) :
    exec .build s = .next (s.raiseError statusValidationError) := by
  simp [exec, execBuild, State.runBuild, h]

/-- R131: `PARSE` on an operand of 32 bytes. -/
theorem exec_parse_of_operand {s : State} {c : Bytes 32} (h : packetOperand s.inp = some c) :
    exec .parse s = .next (s.completeRecord (s.parseResponse c)) := by
  simp [exec, execParse, h]

/-- R131: `PARSE` on an operand of another length. -/
theorem exec_parse_of_no_operand {s : State} (h : packetOperand s.inp = none) :
    exec .parse s = .next (s.raiseError statusValidationError) := by
  simp [exec, execParse, h]

/-- R45, R185: an instruction of the block completes or raises `ValidationError`; it never stops. -/
theorem exec_cases_of_blockInstr {i : Instr} (hi : BlockInstr i) (s : State) :
    (∃ result, exec i s = .next (s.complete result)) ∨ exec i s = .next (s.raiseError statusValidationError) := by
  cases i with
  | csum => exact .inl ⟨_, rfl⟩
  | enc =>
    cases h : packetOperand s.inp with
    | some p => exact .inl ⟨_, exec_enc_of_operand h⟩
    | none => exact .inr (exec_enc_of_no_operand h)
  | dec =>
    cases h : packetOperand s.inp with
    | some c => exact .inl ⟨_, exec_dec_of_operand h⟩
    | none => exact .inr (exec_dec_of_no_operand h)
  | build =>
    cases h : commandOperand s.inp with
    | some command => exact .inl ⟨_, exec_build_of_operand h⟩
    | none => exact .inr (exec_build_of_no_operand h)
  | parse =>
    cases h : packetOperand s.inp with
    | some c => exact .inl ⟨_, exec_parse_of_operand h⟩
    | none => exact .inr (exec_parse_of_no_operand h)
  | respError => exact .inl ⟨_, rfl⟩
  | respRead => exact .inl ⟨_, rfl⟩
  | respEcho slave code d0 d1 d2 d3 x6 =>
    simp only [exec, execRespEcho]
    split
    · exact .inl ⟨_, rfl⟩
    · exact .inl ⟨_, rfl⟩
  | _ => exact False.elim hi

/-- R76, R153: a builder ends in its `BUILD` or its failed range check, or is `setTemperature` out of range. -/
theorem exec_cases_of_builder {i : Instr} (hi : ¬ BlockInstr i) (s : State) :
    (∃ command, exec i s = .next (s.issueChecked command)) ∨
    (∃ celsius, i = .setTemperature celsius ∧ setTemperatureCommand celsius = none ∧
      exec i s = .refused .temperatureOutOfRange) := by
  cases i with
  | readRegister reg => exact .inl ⟨some (readCommand reg), rfl⟩
  | readPower => exact .inl ⟨some (readTelemetry .power), rfl⟩
  | readPowerLevel => exact .inl ⟨some (readTelemetry .powerLevel), rfl⟩
  | readAmbientTemperature => exact .inl ⟨some (readTelemetry .ambientTemperature), rfl⟩
  | setPower on => exact .inl ⟨some (setPowerCommand on), rfl⟩
  | setTemperature celsius =>
    cases h : setTemperatureCommand celsius with
    | some command => exact .inl ⟨some command, by simp [exec, execSetTemperature, h, State.issueChecked]⟩
    | none => exact .inr ⟨celsius, rfl, h, by simp [exec, execSetTemperature, h]⟩
  | setPowerLevel level => exact .inl ⟨setPowerLevelCommand level, rfl⟩
  | setFan1Speed speed => exact .inl ⟨setFan1SpeedCommand speed, rfl⟩
  | setFan2Speed speed => exact .inl ⟨setFan2SpeedCommand speed, rfl⟩
  | setAutoMode enabled => exact .inl ⟨some (setAutoModeCommand enabled), rfl⟩
  | setStandby enabled => exact .inl ⟨some (setStandbyCommand enabled), rfl⟩
  | _ => exact absurd trivial hi

/-- R71, R72: a word that decodes runs its instruction, and any other word is refused. -/
theorem performWord_cases (word : List Byte) (s : State) :
    (∃ i, decode word = .ok i ∧ performWord word s = exec i s) ∨
    (∃ r, decode word = .error r ∧ performWord word s = .refused .noSuchCommand) := by
  cases h : decode word with
  | ok i => exact .inl ⟨i, rfl, by simp [performWord, h]⟩
  | error r => exact .inr ⟨r, rfl, by simp [performWord, h]⟩

/-- The host's next request, performed with no operation in flight. -/
theorem step_request (s : State) (r : Request) : step (s.request r) = performRequest r s.endOperation :=
  step_of_request rfl rfl

/-! ### The constants (R26) -/

@[simp] theorem State.issueBuild_constants (s : State) (command : Bytes 6) :
    (s.issueBuild command).constants = s.constants := by
  rw [State.issueBuild_eq]

@[simp] theorem State.issueChecked_constants (s : State) (command : Option (Bytes 6)) :
    (s.issueChecked command).constants = s.constants := by
  rcases s.issueChecked_cases command with ⟨c, -, h⟩ | ⟨-, h⟩
  · rw [h, State.issueBuild_constants]
  · rw [h, State.setHostResult_constants]

/-- R26: no instruction changes the constants. -/
theorem exec_constants {i : Instr} {s t : State} (h : exec i s = .next t) : t.constants = s.constants := by
  by_cases hi : BlockInstr i
  · rcases exec_cases_of_blockInstr hi s with ⟨result, h'⟩ | h'
    · cases h.symm.trans h'; exact s.complete_constants result
    · cases h.symm.trans h'; exact s.raiseError_constants _
  · rcases exec_cases_of_builder hi s with ⟨command, h'⟩ | ⟨_, -, -, h'⟩
    · cases h.symm.trans h'; exact s.issueChecked_constants command
    · cases h.symm.trans h'

/-- R26: no operation of the block changes the constants, with a reserved code either. -/
theorem performOperation_constants {s t : State} (h : performOperation s = .next t) :
    t.constants = s.constants := by
  rcases performOperation_cases s with ⟨result, h'⟩ | h' | h'
  · cases h.symm.trans h'; exact s.complete_constants result
  · cases h.symm.trans h'; exact s.raiseError_constants _
  · cases h.symm.trans h'; exact s.raiseError_constants _

/-- R26: no catalog word and no window changes the constants. -/
theorem performWord_constants {word : List Byte} {s t : State} (h : performWord word s = .next t) :
    t.constants = s.constants := by
  rcases performWord_cases word s with ⟨i, -, h'⟩ | ⟨_, -, h'⟩
  · exact exec_constants (h'.symm.trans h)
  · cases h.symm.trans h'

/-- R26: no value decoder changes the constants. -/
theorem runDecoder_constants {d : ValueDecoder} {s t : State} (h : runDecoder d s = .next t) :
    t.constants = s.constants := by
  rcases runDecoder_cases d s with ⟨-, h'⟩ | ⟨_, -, -, h'⟩ | ⟨_, result, -, -, h'⟩
  · cases h.symm.trans h'
  · cases h.symm.trans h'
  · cases h.symm.trans h'; exact s.setHostResult_constants result

/-- R26: no request of the host changes the constants. -/
theorem performRequest_constants {r : Request} {s t : State} (h : performRequest r s = .next t) :
    t.constants = s.constants := by
  cases r with
  | operation op operand time => exact performOperation_constants (s := s.present op operand time) h
  | issue op operand time => cases h; rfl
  | catalogWord word time => exact performWord_constants (s := s.withTime time) h
  | window word => exact performWord_constants h
  | call i time => exact (exec_constants h).trans ((s.withTime time).selectOp_constants i)
  | decoder d => exact runDecoder_constants h
  | reset => cases h; rfl

/-- Settles O6: an operation in flight, a reset and the next request each keep the constants. -/
theorem noStepChangesConstants : Obligations.NoStepChangesConstants := by
  intro s t h
  rcases step_cases s with ⟨rest, -, -, h'⟩ | ⟨-, -, h'⟩ | ⟨hb, -⟩
  · cases h.symm.trans h'; rfl
  · exact performOperation_constants (s := s.endOperation) (h'.symm.trans h)
  · cases hp : s.pending with
    | nil => cases h.symm.trans (step_of_idle hb hp); rfl
    | cons r rest =>
      exact performRequest_constants (s := { s with pending := rest }) ((step_of_request hb hp).symm.trans h)

/-! ### The outcome of a transaction (R27) -/

section
variable {s s' : State}

/-- Two states in which the instruction completes with one result have the same outcome. -/
theorem SameOutcome.of_complete {i : Instr} {result : List Byte} (h : exec i s = .next (s.complete result))
    (h' : exec i s' = .next (s'.complete result)) : SameOutcome i s s' :=
  ⟨_, _, h, h', rfl, rfl⟩

/-- Two states in which the instruction raises one error have the same outcome. -/
theorem SameOutcome.of_raiseError {i : Instr} {code : Byte} (h : exec i s = .next (s.raiseError code))
    (h' : exec i s' = .next (s'.raiseError code)) : SameOutcome i s s' :=
  ⟨_, _, h, h', rfl, rfl⟩

/-- `CSUM` reads the operand and the checksum. -/
theorem sameOutcome_csum (hin : s'.inp = s.inp) (hf : s'.checksum s.inp = s.checksum s.inp) :
    SameOutcome .csum s s' :=
  .of_complete rfl (by rw [← hf, ← hin]; rfl)

/-- `ENC` reads the operand and the encryption. -/
theorem sameOutcome_enc (hin : s'.inp = s.inp) (hf : ∀ p, s'.encrypt p = s.encrypt p) :
    SameOutcome .enc s s' := by
  cases h : packetOperand s.inp with
  | some p => exact .of_complete (exec_enc_of_operand h) (by rw [exec_enc_of_operand (hin ▸ h), hf])
  | none => exact .of_raiseError (exec_enc_of_no_operand h) (exec_enc_of_no_operand (hin ▸ h))

/-- `DEC` reads the operand and the decryption. -/
theorem sameOutcome_dec (hin : s'.inp = s.inp) (hf : ∀ c, s'.decrypt c = s.decrypt c) :
    SameOutcome .dec s s' := by
  cases h : packetOperand s.inp with
  | some c => exact .of_complete (exec_dec_of_operand h) (by rw [exec_dec_of_operand (hin ▸ h), hf])
  | none => exact .of_raiseError (exec_dec_of_no_operand h) (exec_dec_of_no_operand (hin ▸ h))

/-- `BUILD` reads the operand and the packet of a command. -/
theorem sameOutcome_build (hin : s'.inp = s.inp) (hf : ∀ command, s'.buildPacket command = s.buildPacket command) :
    SameOutcome .build s s' := by
  cases h : commandOperand s.inp with
  | some command => exact .of_complete (exec_build_of_operand h) (by rw [exec_build_of_operand (hin ▸ h), hf])
  | none => exact .of_raiseError (exec_build_of_no_operand h) (exec_build_of_no_operand (hin ▸ h))

/-- `PARSE` reads the operand and the record of a notification. -/
theorem sameOutcome_parse (hin : s'.inp = s.inp) (hf : ∀ c, s'.parseResponse c = s.parseResponse c) :
    SameOutcome .parse s s' := by
  cases h : packetOperand s.inp with
  | some c => exact .of_complete (exec_parse_of_operand h) (by rw [exec_parse_of_operand (hin ▸ h), hf]; rfl)
  | none => exact .of_raiseError (exec_parse_of_no_operand h) (exec_parse_of_no_operand (hin ▸ h))

/-- R27: an operation that `OP` selects reads the constants, `IN` and `TIME` alone. -/
theorem sameOutcome_of_decode_op {op : Byte} {i : Instr} (hi : decode [op] = .ok i) (hc : s'.constants = s.constants)
    (hin : s'.inp = s.inp) (ht : s'.time = s.time) : SameOutcome i s s' := by
  rcases decode_op_cases op with ⟨-, h⟩ | ⟨-, h⟩ | ⟨-, h⟩ | ⟨-, h⟩ | ⟨-, h⟩ | ⟨-, h⟩ <;> cases hi.symm.trans h
  · exact sameOutcome_csum hin (by simp only [State.checksum, hc])
  · exact sameOutcome_enc hin (State.encrypt_congr hc)
  · exact sameOutcome_dec hin (State.decrypt_congr hc)
  · exact sameOutcome_build hin (State.buildPacket_congr hc ht)
  · exact sameOutcome_parse hin fun c => by simp only [State.parseResponse, State.decrypt_congr hc]

/-- R27: the outcome of an operation is a function of the constants, `OP`, `IN` and `TIME`. -/
theorem performOperation_sameOutcome (hc : s'.constants = s.constants) (hop : s'.op = s.op) (hin : s'.inp = s.inp)
    (ht : s'.time = s.time) :
    ∃ t t', performOperation s = .next t ∧ performOperation s' = .next t' ∧ t'.status = t.status ∧ t'.out = t.out := by
  cases hd : decode [s.op] with
  | ok i =>
    rw [performOperation_of_decode hd, performOperation_of_decode (hop ▸ hd)]
    exact sameOutcome_of_decode_op hd hc hin ht
  | error r => exact ⟨_, _, performOperation_of_reserved hd, performOperation_of_reserved (hop ▸ hd), rfl, rfl⟩

end

/-- Settles O13: the request writes `OP`, `IN` and `TIME`, and with the constants these fix the outcome. -/
theorem transactionOutcomeIgnoresHistory : Obligations.TransactionOutcomeIgnoresHistory := by
  intro s s' op operand time hc
  rw [step_request, step_request]
  exact performOperation_sameOutcome (s := s.endOperation.present op operand time)
    (s' := s'.endOperation.present op operand time) hc rfl rfl rfl

/-! ### Reset (R36) -/

/-- Settles O1: reset holds the fixed constants, each of them its parameter or its printed table. -/
theorem resetLeavesConstantsAndNoOutput : Obligations.ResetLeavesConstantsAndNoOutput :=
  ⟨rfl, rfl, rfl, rfl, rfl, rfl, rfl, rfl⟩

end Sys2Proof.Machine
end

section
/-! Proofs of the checksum family (40_checksum.md): the table-driven form against the bit-shifting form, the tables
that make the two agree, and `CSUM`. -/

namespace Sys2Proof

/-- R13, R14: XOR of 16-bit values goes half by half. -/
theorem be16_xor_be16 (hi lo hi' lo' : Byte) : be16 hi lo ^^^ be16 hi' lo' = be16 (hi ^^^ hi') (lo ^^^ lo') :=
  BitVec.xor_append

/-- R14: a byte widened to 16 bits is the low half. -/
theorem zeroExtend_byte_eq_be16 (b : Byte) : b.zeroExtend 16 = be16 0 b :=
  BitVec.setWidth_eq_append (by decide)

/-- R14: `v >> 8` moves the high half down. -/
theorem be16_ushiftRight_eight (hi lo : Byte) : be16 hi lo >>> 8 = be16 0 hi := by
  apply BitVec.eq_of_toNat_eq
  have := lo.isLt
  rw [BitVec.toNat_ushiftRight, be16_toNat, be16_toNat, Nat.shiftRight_eq_div_pow]
  simp only [BitVec.ofNat_eq_ofNat, BitVec.toNat_ofNat]
  omega

/-- The low half of `be16(hi, 0)` holds no bit. -/
theorem be16_zero_getLsbD (hi : Byte) {i : Nat} (h : i < 8) : (be16 hi 0).getLsbD i = false := by
  rw [be16, BitVec.getLsbD_append, if_pos h]
  exact BitVec.getLsbD_zero

end Sys2Proof

namespace Sys2Proof.Machine

/-! ### One byte of the bit-shifting form through `T` (R93) -/

/-- R91: a shift step that shifts a 0 out is the shift alone. -/
theorem crcShift_of_bit_zero {crc : Word16} (h : crc.getLsbD 0 = false) : crcShift crc = crc >>> 1 := by
  rw [crcShift, h, if_neg Bool.false_ne_true]

/-- R93: on a value whose low byte is 0 the eight shift steps are the shift alone. -/
theorem crcShift8_of_low_bits_zero {crc : Word16} (h : ∀ i < 8, crc.getLsbD i = false) :
    crcShift8 crc = crc >>> 8 := by
  have first : crcShift crc = crc >>> 1 := crcShift_of_bit_zero (h 0 (by decide))
  have next : ∀ k < 8, crcShift (crc >>> k) = crc >>> (k + 1) := fun k hk => by
    rw [crcShift_of_bit_zero (by rw [BitVec.getLsbD_ushiftRight]; exact h k hk), BitVec.shiftRight_add]
  simp only [crcShift8, first, next, Nat.reduceLT, Nat.reduceAdd]

/-- R93: eight shift steps move the high byte down and add the entry of `T` that the low byte selects. -/
theorem crcShift8_be16 (hi lo : Byte) : crcShift8 (be16 hi lo) = be16 0 hi ^^^ crcTableEntry lo := by
  have halves : be16 hi lo = be16 hi 0 ^^^ lo.zeroExtend 16 := by
    simp [zeroExtend_byte_eq_be16, be16_xor_be16]
  rw [halves, crcShift8_xor, crcShift8_of_low_bits_zero fun _ h => be16_zero_getLsbD hi h,
    be16_ushiftRight_eight, crcTableEntry]

/-- R93: one byte of the bit-shifting form through `T`, on the accumulator's two halves. -/
theorem crcByte_be16 (hi lo b : Byte) : crcByte (be16 hi lo) b = be16 0 hi ^^^ crcTableEntry (lo ^^^ b) := by
  rw [crcByte, zeroExtend_byte_eq_be16, be16_xor_be16, crcShift8_be16]
  simp

/-! ### The printed tables (R24, R25) -/

/-- R93: `HIGH_TABLE[i] = T[i] AND 0xFF`. -/
theorem tableRead_highTableContents : ∀ i : Byte, tableRead highTableContents i = loByte (crcTableEntry i) := by
  decide +kernel

/-- R93: `LOW_TABLE[i] = T[i] >> 8`. -/
theorem tableRead_lowTableContents : ∀ i : Byte, tableRead lowTableContents i = hiByte (crcTableEntry i) := by
  decide +kernel

/-! ### The two forms agree (R92) -/

/-- R91: `hi*256 + lo`, the bit-shifting form's accumulator for the two halves. -/
def Accumulator.crc (acc : Accumulator) : Word16 := be16 acc.hi acc.lo

@[simp] theorem Accumulator.hiByte_crc (acc : Accumulator) : hiByte acc.crc = acc.hi := hiByte_be16 acc.hi acc.lo
@[simp] theorem Accumulator.loByte_crc (acc : Accumulator) : loByte acc.crc = acc.lo := loByte_be16 acc.hi acc.lo

/-- R91: with the printed tables one byte of either form takes `crc = hi*256 + lo` to itself. -/
theorem crcByte_crc (acc : Accumulator) (b : Byte) :
    crcByte acc.crc b = (checksumStep highTableContents lowTableContents acc b).crc := by
  have entry : ∀ i : Byte, crcTableEntry i =
      be16 (tableRead lowTableContents i) (tableRead highTableContents i) := fun i => by
    rw [tableRead_lowTableContents, tableRead_highTableContents, be16_hiByte_loByte]
  simp only [Accumulator.crc, checksumStep, crcByte_be16, entry, be16_xor_be16]
  simp

/-- R91: `crc = hi*256 + lo` after any bytes. -/
theorem foldl_crcByte_crc (acc : Accumulator) (d : List Byte) :
    d.foldl crcByte acc.crc = (d.foldl (checksumStep highTableContents lowTableContents) acc).crc :=
  List.foldl_hom Accumulator.crc crcByte_crc

/-- R92: the table-driven form with the printed tables is the bit-shifting form. -/
theorem checksum_eq_checksumBitwise (d : List Byte) :
    checksum highTableContents lowTableContents d = checksumBitwise d := by
  have seed : (0xFFFF : Word16) = checksumSeed.crc := by decide
  simp only [checksum, checksumBitwise, seed, foldl_crcByte_crc, Accumulator.hiByte_crc, Accumulator.loByte_crc]

/-! ### One-byte inputs force the tables (R93) -/

/-- R41: two tables with the same entries are the same. -/
theorem eq_of_tableRead_eq {table table' : Bytes 256} (h : ∀ i : Byte, tableRead table i = tableRead table' i) :
    table = table' := by
  apply Bytes.ext_bytes
  refine List.ext_getElem (by simp) fun i hi _ => ?_
  have lt : i < 256 := by simpa using hi
  simpa [tableRead, Bytes.at, Nat.mod_eq_of_lt lt] using h (BitVec.ofNat 8 i)

/-- R93: the checksum of one byte is one entry of each table. -/
theorem checksum_singleton_bytes (hT lT : Bytes 256) (b : Byte) :
    (checksum hT lT [b]).bytes = [0xFF ^^^ tableRead hT (0xFF ^^^ b), tableRead lT (0xFF ^^^ b)] := rfl

/-- R93: tables with one checksum on every one-byte input are the same tables, for every index is `0xFF XOR b` of
some byte. -/
theorem tables_eq_of_checksum_singleton_eq {hT lT hT' lT' : Bytes 256}
    (h : ∀ b : Byte, checksum hT lT [b] = checksum hT' lT' [b]) : hT = hT' ∧ lT = lT' := by
  have entries : ∀ i : Byte, tableRead hT i = tableRead hT' i ∧ tableRead lT i = tableRead lT' i := fun i => by
    have hb := congrArg Bytes.bytes (h (0xFF ^^^ i))
    simpa [checksum_singleton_bytes, ← BitVec.xor_assoc] using hb
  exact ⟨eq_of_tableRead_eq fun i => (entries i).1, eq_of_tableRead_eq fun i => (entries i).2⟩

/-- R93: tables that agree with the bit-shifting form on every one-byte input are the printed ones. -/
theorem tables_eq_contents_of_checksum_singleton {hT lT : Bytes 256}
    (h : ∀ b : Byte, checksum hT lT [b] = checksumBitwise [b]) :
    hT = highTableContents ∧ lT = lowTableContents :=
  tables_eq_of_checksum_singleton_eq fun b => (h b).trans (checksum_eq_checksumBitwise [b]).symm

/-- Settles O22: the two forms agree after every byte, and one-byte inputs tell any other tables apart. -/
theorem checksumAgreesWithBitShiftingForm : Obligations.ChecksumAgreesWithBitShiftingForm := by
  refine ⟨fun d => ⟨Bytes.length_bytes _, checksum_eq_checksumBitwise d⟩, fun hT lT hne => ?_⟩
  by_contra hall
  push Not at hall
  obtain ⟨hhigh, hlow⟩ := tables_eq_contents_of_checksum_singleton fun b => hall [b]
  exact hne.elim (fun h => h hhigh) (fun h => h hlow)

/-! ### `CSUM` (R90) -/

/-- R90: what `CSUM` does. -/
theorem exec_csum (s : State) : exec .csum s = .next (s.complete (s.checksum s.inp).bytes) := rfl

/-- R90: the halves in the order of the result, low half first. -/
def Accumulator.loHi (acc : Accumulator) : Byte × Byte := (acc.lo, acc.hi)

/-- R90: the two assignments of one step on the pair `(lo, hi)`; both read the old pair. -/
def checksumPairStep (hT lT : Bytes 256) (a : Byte × Byte) (b : Byte) : Byte × Byte :=
  (a.2 ^^^ tableRead hT (a.1 ^^^ b), tableRead lT (a.1 ^^^ b))

/-- R90: the checksum is the pair `(lo, hi)` that the fold of the two assignments ends in. -/
theorem checksum_bytes_eq_foldl_pair (hT lT : Bytes 256) (d : List Byte) :
    (checksum hT lT d).bytes =
      [(d.foldl (checksumPairStep hT lT) (0xFF, 0xFF)).1, (d.foldl (checksumPairStep hT lT) (0xFF, 0xFF)).2] := by
  have pair : d.foldl (checksumPairStep hT lT) checksumSeed.loHi = (d.foldl (checksumStep hT lT) checksumSeed).loHi :=
    List.foldl_hom Accumulator.loHi fun _ _ => rfl
  exact congrArg (fun a : Byte × Byte => [a.1, a.2]) pair.symm

/-- Settles O19: `CSUM` completes with the checksum, which is the fold on the pair; the corner cases and the example are
runs of the printed tables. -/
theorem csumRunsTheTableForm : Obligations.CsumRunsTheTableForm := by
  refine ⟨rfl, fun s => ?_, rfl, ?_, ?_, ?_⟩
  · rw [exec_csum, State.checksum, checksum_bytes_eq_foldl_pair]
    rfl
  · decide +kernel
  · decide +kernel
  · decide +kernel

end Sys2Proof.Machine
end

section
/-! Proofs of the cipher family (41_cipher.md): the block cipher's contract, and the round trip of `encrypt` and
`decrypt` through their closed forms. -/

namespace Sys2Proof.Machine

/-- Settles O25: R101's contract, each direction by its law. -/
theorem blockCipherDirectionsInvertEachOther : Obligations.BlockCipherDirectionsInvertEachOther :=
  fun key x => ⟨blockDecrypt_blockEncrypt key x, blockEncrypt_blockDecrypt key x⟩

/-! ### The closed forms (R105, R107)

Two blocks of a chain depend on nothing after them, so the closed form of a two-block chain is the front of every
longer one; the pad block and its ciphertext are a third block that the front does not see. -/

/-- Two blocks and what follows them, cut after the two. -/
theorem Bytes.take_two_blocks (a b : Block) (l : List Byte) :
    (a.bytes ++ (b.bytes ++ l)).take 32 = a.bytes ++ b.bytes := by
  rw [← List.append_assoc]
  exact List.take_left' (by simp)

/-- R102: the first two blocks of a chain are the closed form on the first two plaintext blocks. -/
theorem cbcEncrypt_slice_two_blocks (encBlock : Block → Block) (n : Nat) (iv : Block) (p : Bytes (16 * (n + 2))) :
    (cbcEncrypt encBlock (n + 2) iv p).slice 0 32 (by omega) =
      closedEncrypt encBlock iv (p.slice 0 32 (by omega)) := by
  apply Bytes.ext_bytes
  rw [Bytes.bytes_slice, cbcEncrypt_bytes, cbcEncrypt_bytes, List.drop_zero, Bytes.take_two_blocks]
  simp only [closedEncrypt, Bytes.bytes_append, Bytes.slice_slice]

/-- R103: the first two blocks of a decrypted chain are the closed form on the first two ciphertext blocks. -/
theorem cbcDecrypt_slice_two_blocks (decBlock : Block → Block) (n : Nat) (iv : Block) (c : Bytes (16 * (n + 2))) :
    (cbcDecrypt decBlock (n + 2) iv c).slice 0 32 (by omega) =
      closedDecrypt decBlock iv (c.slice 0 32 (by omega)) := by
  apply Bytes.ext_bytes
  rw [Bytes.bytes_slice, cbcDecrypt_bytes, cbcDecrypt_bytes, List.drop_zero, Bytes.take_two_blocks]
  simp only [closedDecrypt, Bytes.bytes_append, Bytes.slice_slice]

/-- R105: `encrypt` has its closed form under every block function. -/
theorem encryptWith_eq_closedEncrypt (encBlock : Block → Block) (iv : Block) (p : Bytes 32) :
    encryptWith encBlock iv p = closedEncrypt encBlock iv p := by
  have front : (p.append padBlock).slice 0 32 (by omega) = p := Bytes.slice_append_left _ _ _
  exact (cbcEncrypt_slice_two_blocks encBlock 1 iv (p.append padBlock)).trans (congrArg _ front)

/-- R107: `decrypt` has its closed form under every pair of block functions. -/
theorem decryptWith_eq_closedDecrypt (encBlock decBlock : Block → Block) (iv : Block) (c : Bytes 32) :
    decryptWith encBlock decBlock iv c = closedDecrypt decBlock iv c := by
  have front : (c.append (encryptedPad encBlock c)).slice 0 32 (by omega) = c := Bytes.slice_append_left _ _ _
  exact (cbcDecrypt_slice_two_blocks decBlock 1 iv (c.append (encryptedPad encBlock c))).trans (congrArg _ front)

/-! ### The round trip (R108) -/

/-- R108: on closed forms the round trip needs only that the block decryption undoes the block encryption: it cancels
block by block, and each XOR with the chaining input cancels itself. -/
theorem closedDecrypt_closedEncrypt {encBlock decBlock : Block → Block}
    (inv : Function.LeftInverse decBlock encBlock) (iv : Block) (p : Bytes 32) :
    closedDecrypt decBlock iv (closedEncrypt encBlock iv p) = p := by
  have c0 : (closedEncrypt encBlock iv p).slice 0 16 (by omega) =
      encBlock ((p.slice 0 16 (by omega)).xor iv) := Bytes.slice_append_left _ _ _
  have c1 : (closedEncrypt encBlock iv p).slice 16 16 (by omega) =
      encBlock ((p.slice 16 16 (by omega)).xor (encBlock ((p.slice 0 16 (by omega)).xor iv))) :=
    Bytes.slice_append_right _ _ _
  rw [closedDecrypt, c0, c1, inv, inv, Bytes.xor_xor_cancel, Bytes.xor_xor_cancel]
  exact Bytes.append_slices (m := 16) (n := 16) p

/-- Settles O29: both functions have their closed forms, and the block cipher's contract inverts one by the other. -/
theorem decryptInvertsEncrypt : Obligations.DecryptInvertsEncrypt := by
  intro key iv p
  rw [encrypt, decrypt, encryptWith_eq_closedEncrypt, decryptWith_eq_closedDecrypt]
  exact closedDecrypt_closedEncrypt (blockDecrypt_blockEncrypt key) iv p

end Sys2Proof.Machine
end

section
/-! Proofs of the packet builder family (42_packet_builder.md): operands of a wrong length. -/

namespace Sys2Proof.Machine

/-- R112, R131: a packet operand is missing exactly on a length other than 32. -/
theorem packetOperand_eq_none (inp : List Byte) : packetOperand inp = none ↔ inp.length ≠ 32 :=
  Bytes.ofList?_eq_none inp

/-- R121: a command operand is missing exactly on a length other than 6. -/
theorem commandOperand_eq_none (inp : List Byte) : commandOperand inp = none ↔ inp.length ≠ 6 :=
  Bytes.ofList?_eq_none inp

/-- Settles O10: on another length there is no operand, and each of the four raises `VALIDATION_ERROR` alone. -/
theorem wrongLengthReportsValidationError : Obligations.WrongLengthReportsValidationError := fun s =>
  ⟨fun h => exec_enc_of_no_operand ((packetOperand_eq_none s.inp).mpr h),
    fun h => exec_dec_of_no_operand ((packetOperand_eq_none s.inp).mpr h),
    fun h => exec_build_of_no_operand ((commandOperand_eq_none s.inp).mpr h),
    fun h => exec_parse_of_no_operand ((packetOperand_eq_none s.inp).mpr h)⟩

end Sys2Proof.Machine
end

section
/-! Proofs of the response parser family (43_response_parser.md): the record's invariant. -/

namespace Sys2Proof.Machine

/-! ### Bit 7 of a byte -/

/-- R139: the seven low bits of a byte are its number modulo 128. -/
theorem toNat_and_low_seven_bits (b : Byte) : (b &&& 0x7F).toNat = b.toNat % 128 :=
  (BitVec.toNat_and b 0x7F).trans (Nat.and_two_pow_sub_one_eq_mod b.toNat 7)

/-- R10: bit 7 of a byte is set from 128 on. -/
theorem getLsbD_seven_eq_decide (b : Byte) : b.getLsbD 7 = decide (128 ≤ b.toNat) :=
  BitVec.msb_eq_getLsbD_last b ▸ BitVec.msb_eq_decide b

/-- R139: a byte is its seven low bits and, where bit 7 is set, 128 more. -/
theorem toNat_eq_low_seven_bits_add (b : Byte) :
    b.toNat = (b &&& 0x7F).toNat + (if b.getLsbD 7 then 0x80 else 0) := by
  have := b.isLt
  rw [toNat_and_low_seven_bits, getLsbD_seven_eq_decide]
  simp only [decide_eq_true_eq]
  split <;> omega

/-- R139: the seven low bits leave bit 7 clear. -/
theorem and_low_seven_bits_getLsbD_seven (b : Byte) : (b &&& 0x7F).getLsbD 7 = false := by
  rw [BitVec.getLsbD_and]
  exact Bool.and_false _

/-- R132: where bit 7 is clear, the raw and the cleared code are the same. -/
theorem and_low_seven_bits_of_bit_clear {b : Byte} (h : b.getLsbD 7 = false) : b &&& 0x7F = b := by
  apply BitVec.eq_of_toNat_eq
  rw [toNat_eq_low_seven_bits_add b, h]
  rfl

/-! ### The classification by the raw code (R132) -/

/-- R132: the three classes, each with the raw codes it takes. -/
theorem classify_cases (dr : Bytes 7) :
    ((dr.at 1 (by omega)).getLsbD 7 = true ∧
      classify dr = errorRecord (dr.at 0 (by omega)) (dr.at 1 (by omega)) (dr.at 2 (by omega))) ∨
    (dr.at 1 (by omega) = 0x03 ∧
      classify dr = readRecord (dr.at 0 (by omega)) (dr.at 2 (by omega)) (dr.at 3 (by omega)) (dr.at 4 (by omega))
        (dr.at 5 (by omega)) (dr.at 6 (by omega))) ∨
    ((dr.at 1 (by omega)).getLsbD 7 = false ∧ dr.at 1 (by omega) ≠ 0x03 ∧
      classify dr = echoRecord (dr.at 0 (by omega)) (dr.at 1 (by omega)) (dr.at 2 (by omega)) (dr.at 3 (by omega))
        (dr.at 4 (by omega)) (dr.at 5 (by omega))) := by
  simp only [classify, errorBit_eq]
  split
  next bit => exact .inl ⟨bit, rfl⟩
  next bit =>
    split
    next code => exact .inr (.inl ⟨code, rfl⟩)
    next code => exact .inr (.inr ⟨Bool.eq_false_iff.mpr bit, code, rfl⟩)

/-- R139: `isError` is bit 7 of the raw code. -/
theorem classify_isError (dr : Bytes 7) : (classify dr).isError = (dr.at 1 (by omega)).getLsbD 7 := by
  rcases classify_cases dr with ⟨bit, h⟩ | ⟨code, h⟩ | ⟨bit, -, h⟩
  · rw [h, bit]; rfl
  · rw [h, code]; rfl
  · rw [h, bit]; rfl

/-- R139: in every class `functionCode` is the raw code with bit 7 cleared. -/
theorem classify_functionCode (dr : Bytes 7) : (classify dr).functionCode = dr.at 1 (by omega) &&& 0x7F := by
  rcases classify_cases dr with ⟨-, h⟩ | ⟨code, h⟩ | ⟨bit, -, h⟩
  · rw [h]; rfl
  · rw [h, code]; rfl
  · rw [h, and_low_seven_bits_of_bit_clear bit]; rfl

/-- R133: an error reply's data is the exception code. -/
theorem classify_data_of_isError {dr : Bytes 7} (err : (classify dr).isError = true) :
    (classify dr).data = [dr.at 2 (by omega)] := by
  rcases classify_cases dr with ⟨-, h⟩ | ⟨-, h⟩ | ⟨-, -, h⟩
  · rw [h]; rfl
  · rw [h] at err; cases err
  · rw [h] at err; cases err

/-- Settles O41: `isError` and `functionCode` are bit 7 of the raw code and its seven low bits, which make it up. -/
theorem recordInvariantOfEveryWindow : Obligations.RecordInvariantOfEveryWindow := by
  intro dr r raw
  have isError : r.isError = raw.getLsbD 7 := classify_isError dr
  have functionCode : r.functionCode = raw &&& 0x7F := classify_functionCode dr
  refine ⟨by rw [isError], fun err => ⟨functionCode, classify_data_of_isError err⟩, ?_, ?_, ?_⟩
  · rw [functionCode, toNat_and_low_seven_bits]
    omega
  · rw [functionCode]
    exact and_low_seven_bits_getLsbD_seven raw
  · rw [functionCode, isError]
    exact toNat_eq_low_seven_bits_add raw

end Sys2Proof.Machine
end

section
/-! Proofs of the catalog and decoders family (44_catalog_and_decoders.md): the bytes of the builders that check no
range, and the decoders as functions of a record. -/

namespace Sys2Proof.Machine

/-! ### The bytes of the builders (R150, R152, R157, R158) -/

/-- R150: the six bytes of a read command as numbers. -/
theorem readCommand_toNat (reg : Word16) :
    (readCommand reg).bytes.map BitVec.toNat = [1, 3, reg.toNat / 256, reg.toNat % 256, 0, 1] := by
  simp only [readCommand, List.map_cons, List.map_nil, hiByte_toNat, loByte_toNat]
  rfl

/-- Settles O47: a read command for every register by the halves of its number; each switch builder writes a printed
register and one of two values, so its bytes are computed. -/
theorem uncheckedBuildersMakeTheSpecBytes : Obligations.UncheckedBuildersMakeTheSpecBytes :=
  ⟨readCommand_toNat, rfl, rfl, rfl, rfl, rfl, rfl⟩

/-! ### The decoders on a record (R159 to R164) -/

/-- R159: on an error record every decoder raises `ProtocolError` with the first data byte. -/
theorem decodeRecord_of_isError (d : ValueDecoder) {r : DeviceResponse} {code : Byte} {more : List Byte}
    (err : r.isError = true) (hdata : r.data = code :: more) : decodeRecord d r = some (.protocolError code) := by
  simp only [decodeRecord, err, hdata, if_true]

/-- R160 to R163: without an error a decoder returns its value of the first two data bytes. -/
theorem decodeRecord_of_data (d : ValueDecoder) {r : DeviceResponse} {hi lo : Byte} {more : List Byte}
    (err : r.isError = false) (hdata : r.data = hi :: lo :: more) :
    decodeRecord d r = some (.value (decodedValue d hi lo)) := by
  simp only [decodeRecord, err, hdata, Bool.false_eq_true, if_false]

/-- R164: without an error a record of fewer than two data bytes has no meaning. -/
theorem decodeRecord_of_short_data (d : ValueDecoder) {r : DeviceResponse} (err : r.isError = false)
    (short : r.data.length < 2) : decodeRecord d r = none := by
  simp only [decodeRecord, err, Bool.false_eq_true, if_false]
  split
  next hdata =>
    rw [hdata] at short
    simp at short
  next => rfl

/-- R160: `boolean` compares the number of the second byte with 1. -/
theorem decodedValue_boolean (hi lo : Byte) :
    decodedValue .boolean hi lo = .boolean (decide (lo.toNat = 1)) :=
  congrArg DecodedValue.boolean (decide_eq_decide.mpr BitVec.toNat_inj.symm)

/-- R161: `temperature` is `be16` with one decimal place. -/
theorem decodedValue_temperature (hi lo : Byte) :
    decodedValue .temperature hi lo = .temperature ⟨((hi.toNat * 256 + lo.toNat : Nat) : Int), 1⟩ := by
  rw [← be16_toNat]
  rfl

/-- R162: `number` is `be16`. -/
theorem decodedValue_number (hi lo : Byte) :
    decodedValue .number hi lo = .number (hi.toNat * 256 + lo.toNat) :=
  congrArg DecodedValue.number (be16_toNat hi lo)

/-- R163: `powerLevel` clamps the second byte into 1..5. -/
theorem decodedValue_powerLevel (hi lo : Byte) :
    decodedValue .powerLevel hi lo = .powerLevel (min (max lo.toNat 1) 5) := rfl

/-- Settles O48: an error record, a record of two data bytes or more, and a shorter one, each by its rule; with two
data bytes the four decoders' values are the numbers the statement writes. -/
theorem decodersAsFunctionsOfTheRecord : Obligations.DecodersAsFunctionsOfTheRecord := by
  refine fun r => ⟨fun d _ err hdata => decodeRecord_of_isError d err hdata,
    fun hi lo _ err hdata => ⟨?_, ?_, ?_, ?_⟩, fun d => decodeRecord_of_short_data d⟩
  · rw [decodeRecord_of_data _ err hdata, decodedValue_boolean]
  · rw [decodeRecord_of_data _ err hdata, decodedValue_temperature]
  · rw [decodeRecord_of_data _ err hdata, decodedValue_number]
  · rw [decodeRecord_of_data _ err hdata, decodedValue_powerLevel]

end Sys2Proof.Machine
end

section
/-! Proofs of the encodings (30_encoding.md): each table of the decoder against its row of the encoder, and from them
the two directions of the round trip. -/

namespace Sys2Proof

/-! ### The fields of a command (R72) -/

/-- R72: the one-bit field of a value is the value. -/
@[simp] theorem bitField_bitValue : ∀ b : Bool, bitField (bitValue b) = some b := by decide

/-- R72: a value that is a one-bit field is its bit's value. -/
theorem bitValue_of_bitField {value : Word16} {b : Bool} (h : bitField value = some b) : bitValue b = value := by
  unfold bitField at h
  split at h
  next zero => cases h; exact zero.symm
  next =>
    split at h
    next one => cases h; exact one.symm
    next => cases h

/-- R14: a 16-bit field holds every number of its range. -/
theorem toNat_ofInt_of_range {n : Int} (least : 0 ≤ n) (greatest : n ≤ 65535) :
    ((BitVec.ofInt 16 n).toNat : Int) = n := by
  rw [BitVec.toNat_ofInt]
  omega

/-- R72: the three-bit field of a number of its range is the number. -/
theorem threeBitField_ofInt {n : Int} (least : 0 ≤ n) (greatest : n ≤ 7) :
    threeBitField (BitVec.ofInt 16 n) = some n := by
  have number := toNat_ofInt_of_range least (by omega)
  rw [threeBitField, if_pos (by omega)]
  exact congrArg some number

/-- R72: a value that is a three-bit field is the value of a number of its range. -/
theorem ofInt_of_threeBitField {value : Word16} {n : Int} (h : threeBitField value = some n) :
    0 ≤ n ∧ n ≤ 7 ∧ BitVec.ofInt 16 n = value := by
  unfold threeBitField at h
  split at h
  next lt =>
    cases h
    exact ⟨Int.natCast_nonneg _, by simp only [Int.ofNat_eq_natCast]; omega, by simp⟩
  next => cases h

/-! ### The words of a catalog command (R71, R72) -/

/-- R71: every read command decodes, to the name of its register. -/
theorem decode_encodeRead (reg : Word16) : decode (encodeRead reg) = .ok (decodeRead reg) := by
  simp [encodeRead, decode, decodeCommand]

/-- R72: a write command decodes to the builder of its register and value. -/
theorem decode_encodeWrite {reg value : Word16} {i : Instr} (h : decodeWrite reg value = some i) :
    decode (encodeWrite reg value) = .ok i := by
  simp [encodeWrite, decode, decodeCommand, h]

/-- R151: the first name of `0x0529`. -/
theorem decodeRead_power : decodeRead 0x0529 = .readPower := rfl

/-- R151: the name of `0x0525`. -/
theorem decodeRead_ambientTemperature : decodeRead 0x0525 = .readAmbientTemperature := rfl

/-- R151: a register that has no printed name is named by itself. -/
theorem decodeRead_of_other {reg : Word16} (power : reg ≠ 0x0529) (ambient : reg ≠ 0x0525) :
    decodeRead reg = .readRegister reg := by
  rw [decodeRead, if_neg power, if_neg ambient]

theorem decodeWrite_setPower (on : Bool) : decodeWrite 0x031C (bitValue on) = some (.setPower on) := by
  simp [decodeWrite]

theorem decodeWrite_setTemperature {tenths : Int} (least : 0 ≤ tenths) (greatest : tenths ≤ 65535) :
    decodeWrite 0x0525 (BitVec.ofInt 16 tenths) = some (.setTemperature ⟨tenths, 1⟩) := by
  have number := toNat_ofInt_of_range least greatest
  simpa [decodeWrite] using number

theorem decodeWrite_setPowerLevel {level : Int} (least : 0 ≤ level) (greatest : level ≤ 7) :
    decodeWrite 0x0440 (BitVec.ofInt 16 level) = some (.setPowerLevel level) := by
  simp [decodeWrite, threeBitField_ofInt least greatest]

theorem decodeWrite_setFan1Speed {speed : Int} (least : 0 ≤ speed) (greatest : speed ≤ 7) :
    decodeWrite 0x054B (BitVec.ofInt 16 speed) = some (.setFan1Speed speed) := by
  simp [decodeWrite, threeBitField_ofInt least greatest]

theorem decodeWrite_setFan2Speed {speed : Int} (least : 0 ≤ speed) (greatest : speed ≤ 7) :
    decodeWrite 0x054D (BitVec.ofInt 16 speed) = some (.setFan2Speed speed) := by
  simp [decodeWrite, threeBitField_ofInt least greatest]

theorem decodeWrite_setAutoMode (enabled : Bool) :
    decodeWrite 0x0443 (bitValue enabled) = some (.setAutoMode enabled) := by
  simp [decodeWrite]

theorem decodeWrite_setStandby (enabled : Bool) :
    decodeWrite 0x0444 (bitValue enabled) = some (.setStandby enabled) := by
  simp [decodeWrite]

/-- R71: the name of a register is well formed and its word is the register's read command. -/
theorem decodeRead_word (reg : Word16) :
    (decodeRead reg).WellFormed ∧ encode (decodeRead reg) = encodeRead reg := by
  unfold decodeRead
  split
  next power => exact ⟨rfl, by rw [power]; rfl⟩
  next =>
    split
    next ambient => exact ⟨rfl, by rw [ambient]; rfl⟩
    next => exact ⟨rfl, rfl⟩

/-- R72: the builder of a register and a value is well formed and its word is their write command. -/
theorem decodeWrite_word {reg value : Word16} {i : Instr} (h : decodeWrite reg value = some i) :
    i.WellFormed ∧ encode i = encodeWrite reg value := by
  unfold decodeWrite at h
  split_ifs at h with power temperature level fan1 fan2 autoMode standby
  · obtain ⟨b, hb, rfl⟩ := Option.map_eq_some_iff.mp h
    exact ⟨rfl, by rw [encode, bitValue_of_bitField hb, power]⟩
  · cases h
    refine ⟨?_, by rw [encode, temperature]; simp⟩
    have := value.isLt
    simp only [Instr.WellFormed, Instr.wellFormed, Bool.and_eq_true, decide_eq_true_eq, beq_self_eq_true, true_and,
      Int.ofNat_eq_natCast]
    omega
  · obtain ⟨n, hn, rfl⟩ := Option.map_eq_some_iff.mp h
    obtain ⟨least, greatest, word⟩ := ofInt_of_threeBitField hn
    exact ⟨by simp [Instr.WellFormed, Instr.wellFormed, least, greatest], by rw [encode, word, level]⟩
  · obtain ⟨n, hn, rfl⟩ := Option.map_eq_some_iff.mp h
    obtain ⟨least, greatest, word⟩ := ofInt_of_threeBitField hn
    exact ⟨by simp [Instr.WellFormed, Instr.wellFormed, least, greatest], by rw [encode, word, fan1]⟩
  · obtain ⟨n, hn, rfl⟩ := Option.map_eq_some_iff.mp h
    obtain ⟨least, greatest, word⟩ := ofInt_of_threeBitField hn
    exact ⟨by simp [Instr.WellFormed, Instr.wellFormed, least, greatest], by rw [encode, word, fan2]⟩
  · obtain ⟨b, hb, rfl⟩ := Option.map_eq_some_iff.mp h
    exact ⟨rfl, by rw [encode, bitValue_of_bitField hb, autoMode]⟩
  · obtain ⟨b, hb, rfl⟩ := Option.map_eq_some_iff.mp h
    exact ⟨rfl, by rw [encode, bitValue_of_bitField hb, standby]⟩

/-- R71, R72: six bytes that decode are a command of the catalog. -/
theorem decodeCommand_of_decode {b0 b1 b2 b3 b4 b5 : Byte} {i : Instr} (h : decode [b0, b1, b2, b3, b4, b5] = .ok i) :
    decodeCommand b0 b1 b2 b3 b4 b5 = some i := by
  simp only [decode] at h
  cases hc : decodeCommand b0 b1 b2 b3 b4 b5 with
  | some j => rw [hc] at h; cases h; rfl
  | none => rw [hc] at h; cases h

/-- R71, R72: six bytes that are a command are the word of its well-formed builder. -/
theorem decodeCommand_word {b0 b1 b2 b3 b4 b5 : Byte} {i : Instr} (h : decodeCommand b0 b1 b2 b3 b4 b5 = some i) :
    i.WellFormed ∧ encode i = [b0, b1, b2, b3, b4, b5] := by
  unfold decodeCommand at h
  split at h
  next read =>
    obtain ⟨rfl, rfl, rfl, rfl⟩ := read
    cases h
    simpa [encodeRead] using decodeRead_word (be16 b2 b3)
  next =>
    split at h
    next write =>
      obtain ⟨rfl, rfl⟩ := write
      simpa [encodeWrite] using decodeWrite_word h
    next => cases h

/-! ### The words of a window (R64) -/

/-- R64: the raw code of an error reply has bit 7 set and its code below. -/
theorem errorCode_fields : ∀ code : BitVec 7,
    (1#1 ++ code : Byte) &&& 0x80 ≠ 0 ∧ (1#1 ++ code : Byte).extractLsb' 0 7 = code := by decide +kernel

/-- R64: the raw code of an echo has bit 7 clear and its code below. -/
theorem echoCode_fields : ∀ code : BitVec 7,
    (0#1 ++ code : Byte) &&& 0x80 = 0 ∧ (0#1 ++ code : Byte).extractLsb' 0 7 = code ∧
      ((0#1 ++ code : Byte) = 0x03 ↔ code = 0x03#7) := by decide +kernel

/-- R64: a raw code is bit 7 and the code below. -/
theorem rawCode_of_fields : ∀ raw : Byte,
    raw = if raw &&& 0x80 ≠ 0 then 1#1 ++ raw.extractLsb' 0 7 else 0#1 ++ raw.extractLsb' 0 7 := by decide +kernel

/-- R64: the raw code of an error reply from its low seven bits. -/
theorem errorCode_of_bit_set {raw : Byte} (bit : raw &&& 0x80 ≠ 0) : (1#1 ++ raw.extractLsb' 0 7 : Byte) = raw :=
  ((rawCode_of_fields raw).trans (if_pos bit)).symm

/-- R64: the raw code of an echo from its low seven bits. -/
theorem echoCode_of_bit_clear {raw : Byte} (bit : ¬ raw &&& 0x80 ≠ 0) : (0#1 ++ raw.extractLsb' 0 7 : Byte) = raw :=
  ((rawCode_of_fields raw).trans (if_neg bit)).symm

/-- R60: seven bytes always decode. -/
theorem decode_window (b0 b1 b2 b3 b4 b5 b6 : Byte) :
    decode [b0, b1, b2, b3, b4, b5, b6] = .ok (decodeWindow b0 b1 b2 b3 b4 b5 b6) := rfl

/-- R64: the error bit is tested first. -/
theorem decodeWindow_of_error {raw : Byte} (bit : raw &&& 0x80 ≠ 0) (b0 b2 b3 b4 b5 b6 : Byte) :
    decodeWindow b0 raw b2 b3 b4 b5 b6 = .respError b0 (raw.extractLsb' 0 7) b2 b3 b4 b5 b6 :=
  if_pos bit

/-- R64: the raw code of a read reply. -/
theorem decodeWindow_of_read (b0 b2 b3 b4 b5 b6 : Byte) :
    decodeWindow b0 0x03 b2 b3 b4 b5 b6 = .respRead b0 b2 b3 b4 b5 b6 := rfl

/-- R64: every other raw code is an echo's. -/
theorem decodeWindow_of_echo {raw : Byte} (bit : ¬ raw &&& 0x80 ≠ 0) (other : raw ≠ 0x03) (b0 b2 b3 b4 b5 b6 : Byte) :
    decodeWindow b0 raw b2 b3 b4 b5 b6 = .respEcho b0 (raw.extractLsb' 0 7) b2 b3 b4 b5 b6 := by
  rw [decodeWindow, if_neg bit, if_neg other]

/-- R64: a window decodes to a well-formed sub-format whose word is the window. -/
theorem decodeWindow_word (b0 b1 b2 b3 b4 b5 b6 : Byte) :
    (decodeWindow b0 b1 b2 b3 b4 b5 b6).WellFormed ∧
      encode (decodeWindow b0 b1 b2 b3 b4 b5 b6) = [b0, b1, b2, b3, b4, b5, b6] := by
  by_cases bit : b1 &&& 0x80 ≠ 0
  · rw [decodeWindow_of_error bit]
    exact ⟨rfl, by rw [encode, errorCode_of_bit_set bit]⟩
  · by_cases read : b1 = 0x03
    · rw [read, decodeWindow_of_read]
      exact ⟨rfl, rfl⟩
    · have raw := echoCode_of_bit_clear bit
      rw [decodeWindow_of_echo bit read]
      refine ⟨?_, by rw [encode, raw]⟩
      simp only [Instr.WellFormed, Instr.wellFormed, bne_iff_ne]
      exact fun code => read (raw.symm.trans ((echoCode_fields _).2.2.mpr code))

/-! ### The round trip -/

/-- R69: an operation code is the word of the operation it selects. -/
theorem decodeOp_word {op : Byte} {i : Instr} (h : decode [op] = .ok i) : i.WellFormed ∧ encode i = [op] := by
  rcases Machine.decode_op_cases op with ⟨rfl, h'⟩ | ⟨rfl, h'⟩ | ⟨rfl, h'⟩ | ⟨rfl, h'⟩ | ⟨rfl, h'⟩ | ⟨-, h'⟩ <;>
    cases h.symm.trans h'
  all_goals exact ⟨rfl, rfl⟩

/-- R60 to R72: a well-formed instruction's word decodes to the first name of the word. -/
theorem decode_encode {i : Instr} (wf : i.WellFormed) : decode (encode i) = .ok i.canonical := by
  cases i with
  | csum | enc | dec | build | parse => rfl
  | respError slave code exc x3 x4 x5 x6 =>
    obtain ⟨bit, low⟩ := errorCode_fields code
    rw [encode, decode_window, decodeWindow_of_error bit, low]
    rfl
  | respRead slave count d0 d1 d2 d3 => rfl
  | respEcho slave code d0 d1 d2 d3 x6 =>
    obtain ⟨bit, low, read⟩ := echoCode_fields code
    have other : code ≠ 0x03#7 := by simpa [Instr.WellFormed, Instr.wellFormed] using wf
    rw [encode, decode_window, decodeWindow_of_echo (not_not.mpr bit) (mt read.mp other), low]
    rfl
  | readRegister reg => exact decode_encodeRead reg
  | readPower | readPowerLevel => exact (decode_encodeRead 0x0529).trans (congrArg _ decodeRead_power)
  | readAmbientTemperature => 
    exact (decode_encodeRead 0x0525).trans (congrArg _ decodeRead_ambientTemperature)
  | setPower on => exact decode_encodeWrite (decodeWrite_setPower on)
  | setTemperature celsius =>
    obtain ⟨mantissa, places⟩ := celsius
    simp only [Instr.WellFormed, Instr.wellFormed, Bool.and_eq_true, beq_iff_eq, decide_eq_true_eq] at wf
    obtain ⟨⟨rfl, least⟩, greatest⟩ := wf
    exact decode_encodeWrite (decodeWrite_setTemperature least greatest)
  | setPowerLevel level =>
    simp only [Instr.WellFormed, Instr.wellFormed, Bool.and_eq_true, decide_eq_true_eq] at wf
    exact decode_encodeWrite (decodeWrite_setPowerLevel wf.1 wf.2)
  | setFan1Speed speed =>
    simp only [Instr.WellFormed, Instr.wellFormed, Bool.and_eq_true, decide_eq_true_eq] at wf
    exact decode_encodeWrite (decodeWrite_setFan1Speed wf.1 wf.2)
  | setFan2Speed speed =>
    simp only [Instr.WellFormed, Instr.wellFormed, Bool.and_eq_true, decide_eq_true_eq] at wf
    exact decode_encodeWrite (decodeWrite_setFan2Speed wf.1 wf.2)
  | setAutoMode enabled => exact decode_encodeWrite (decodeWrite_setAutoMode enabled)
  | setStandby enabled => exact decode_encodeWrite (decodeWrite_setStandby enabled)

/-- R151: only `read.powerLevel` and the reads of the two printed registers have another first name. -/
theorem canonical_eq_self {i : Instr} (powerLevel : i ≠ .readPowerLevel) (power : i ≠ .readRegister 0x0529)
    (ambient : i ≠ .readRegister 0x0525) : i.canonical = i := by
  cases i with
  | readPowerLevel => exact absurd rfl powerLevel
  | readRegister reg =>
    exact decodeRead_of_other (fun h => power (by rw [h])) (fun h => ambient (by rw [h]))
  | _ => rfl

/-- Settles O58: a word decodes to its first name, which is the instruction itself but for the shared words. -/
theorem decodeOfEncodeGivesTheInstruction : Obligations.DecodeOfEncodeGivesTheInstruction := by
  refine ⟨fun i wf powerLevel power ambient => ?_, decode_encode rfl, decode_encode rfl, decode_encode rfl⟩
  rw [decode_encode wf, canonical_eq_self powerLevel power ambient]

/-- Settles O59: a word that decodes has one, six or seven bytes, and each format gives its bytes back. -/
theorem encodeOfDecodeGivesTheWord : Obligations.EncodeOfDecodeGivesTheWord := by
  intro w i h
  match w with
  | [op] => exact decodeOp_word h
  | [b0, b1, b2, b3, b4, b5] =>
    exact decodeCommand_word (decodeCommand_of_decode h)
  | [b0, b1, b2, b3, b4, b5, b6] =>
    cases h
    exact decodeWindow_word b0 b1 b2 b3 b4 b5 b6
  | [] | [_, _] | [_, _, _] | [_, _, _, _] | [_, _, _, _, _] | _ :: _ :: _ :: _ :: _ :: _ :: _ :: _ :: _ => cases h

/-- Settles O57: each word is decoded by its table. -/
theorem wordsDecodeToTheirInstruction : Obligations.WordsDecodeToTheirInstruction :=
  ⟨rfl, rfl, rfl, rfl, rfl, rfl, rfl, rfl, rfl⟩

end Sys2Proof
end

section
/-! Proofs of the checksum family (40_checksum.md), its further statements: the tables entry by entry, the byte step
through `T`, `CSUM` under the invariant, and the checksum of data with its checksum behind it. -/

namespace Sys2Proof.Machine

/-! ### The printed tables (R24, R25, R93) -/

/-- R93: `T` is linear over XOR, as the shift steps are. -/
theorem crcTableEntry_xor (i j : Byte) : crcTableEntry (i ^^^ j) = crcTableEntry i ^^^ crcTableEntry j := by
  simp only [crcTableEntry, BitVec.zeroExtend_eq_setWidth, BitVec.setWidth_xor, crcShift8_xor]

/-- R93: the low bytes of `T` are the eight printed ones. -/
theorem loByte_crcTableEntry_mem : ∀ i : Byte,
    loByte (crcTableEntry i) ∈ ([0x00, 0x01, 0x40, 0x41, 0x80, 0x81, 0xC0, 0xC1] : List Byte) := by decide +kernel

/-- R93: only entry 0 of `T` has the high byte 0. -/
theorem eq_zero_of_hiByte_crcTableEntry : ∀ i : Byte, hiByte (crcTableEntry i) = 0 → i = 0 := by decide +kernel

/-- R25: the entries of `LOW_TABLE` are all different, for those of two indexes differ by the entry of their XOR. -/
theorem tableRead_lowTableContents_injective : Function.Injective (tableRead lowTableContents) := by
  intro i j h
  rw [tableRead_lowTableContents, tableRead_lowTableContents] at h
  refine BitVec.xor_eq_zero_iff.mp (eq_zero_of_hiByte_crcTableEntry (i ^^^ j) ?_)
  rw [crcTableEntry_xor, hiByte, BitVec.extractLsb'_xor]
  exact BitVec.xor_eq_zero_iff.mpr h

/-- Settles O20: each table entry is a half of `T`'s, the low halves take eight values, and an injective function on the
bytes is a permutation. -/
theorem tablesAreTheSplitCrcTable : Obligations.TablesAreTheSplitCrcTable :=
  ⟨tableRead_highTableContents, tableRead_lowTableContents,
    fun i => tableRead_highTableContents i ▸ loByte_crcTableEntry_mem i,
    Finite.injective_iff_bijective.mp tableRead_lowTableContents_injective⟩

/-- R93: one byte of the bit-shifting form through `T`. -/
theorem crcByte_eq (crc : Word16) (b : Byte) :
    crcByte crc b = (crc >>> 8) ^^^ crcTableEntry (loByte (crc ^^^ b.zeroExtend 16)) := by
  rw [← be16_hiByte_loByte crc, crcByte_be16, be16_ushiftRight_eight, zeroExtend_byte_eq_be16, be16_xor_be16,
    loByte_be16]

/-- Settles O21: the byte step by its halves, the entries and the uniqueness by the tables' lemmas; the swapped tables
and the printed entries are computed. -/
theorem oneByteInputsForceTheTables : Obligations.OneByteInputsForceTheTables := by
  refine ⟨crcByte_eq, fun i => ⟨tableRead_highTableContents i, tableRead_lowTableContents i⟩,
    fun hT lT => tables_eq_contents_of_checksum_singleton, ?_, ?_⟩
  · decide +kernel
  · decide +kernel

/-! ### `CSUM` under the invariant (R92) -/

/-- Settles O23: under the invariant the tables are the printed ones, and with them the two forms agree. -/
theorem csumReturnsTheBitShiftingCrc : Obligations.CsumReturnsTheBitShiftingCrc := by
  intro s inv
  have agree : s.checksum s.inp = checksumBitwise s.inp := by
    rw [State.checksum, inv.constants]
    exact checksum_eq_checksumBitwise s.inp
  rw [exec_csum, agree]
  rfl

/-! ### Data with its checksum behind it (V-C7) -/

/-- R90: the checksum is the two halves after the last byte, low half first. -/
theorem checksum_bytes (hT lT : Bytes 256) (d : List Byte) :
    (checksum hT lT d).bytes =
      [(d.foldl (checksumStep hT lT) checksumSeed).lo, (d.foldl (checksumStep hT lT) checksumSeed).hi] := rfl

/-- V-C7: a byte equal to the low half selects the entry 0 of both tables, which is 0, so the high half moves down. -/
theorem checksumStep_lo (acc : Accumulator) :
    checksumStep highTableContents lowTableContents acc acc.lo = ⟨0x00, acc.hi⟩ := by
  have high : tableRead highTableContents 0#8 = 0#8 := rfl
  have low : tableRead lowTableContents 0#8 = 0#8 := rfl
  simp only [checksumStep, BitVec.xor_self, high, low, BitVec.xor_zero]
  rfl

/-- Settles O24: the two checksum bytes are the low half and then the high half, each of which clears one half. -/
theorem checksumOfDataAndChecksumIsZero : Obligations.ChecksumOfDataAndChecksumIsZero := by
  intro d
  rw [checksum_bytes _ _ (d ++ _), checksum_bytes, List.foldl_append]
  generalize d.foldl (checksumStep highTableContents lowTableContents) checksumSeed = acc
  have second := checksumStep_lo ⟨0x00, acc.hi⟩
  simp only [List.foldl_cons, List.foldl_nil, checksumStep_lo, second]

end Sys2Proof.Machine
end

section
/-! Proofs of the cipher family (41_cipher.md), its further statements: chains of any number of blocks, the closed forms
with the third block they drop, the two bijections, and `ENC` and `DEC` on the machine. -/

namespace Sys2Proof.Machine

/-! ### Chains of any number of blocks (R102, R103) -/

/-- R103: decrypting a chain with the inverse block function gives the plaintext back. -/
theorem cbcDecrypt_cbcEncrypt {encBlock decBlock : Block → Block} (inv : Function.LeftInverse decBlock encBlock)
    (n : Nat) (prev : Block) (p : Bytes (16 * n)) : cbcDecrypt decBlock n prev (cbcEncrypt encBlock n prev p) = p := by
  induction n generalizing prev with
  | zero => rfl
  | succ n ih =>
    have first : (cbcEncrypt encBlock (n + 1) prev p).slice 0 16 (by omega) =
        encBlock ((p.slice 0 16 (by omega)).xor prev) :=
      Bytes.ext_bytes (by rw [Bytes.bytes_slice, cbcEncrypt_bytes]; exact List.take_left' (Bytes.length_bytes _))
    have rest : (cbcEncrypt encBlock (n + 1) prev p).slice 16 (16 * n) (by omega) =
        cbcEncrypt encBlock n (encBlock ((p.slice 0 16 (by omega)).xor prev)) (p.slice 16 (16 * n) (by omega)) :=
      Bytes.ext_bytes (by
        rw [Bytes.bytes_slice, cbcEncrypt_bytes, List.drop_left' (Bytes.length_bytes _)]
        exact List.take_of_length_le (by simp))
    apply Bytes.ext_bytes
    rw [cbcDecrypt_bytes, first, rest, inv, Bytes.xor_xor_cancel, ih, Bytes.bytes_slice, Bytes.bytes_slice,
      List.drop_zero, List.take_of_length_le (l := p.bytes.drop 16) (by simp; omega), List.take_append_drop]

/-- Settles O26: the block cipher's contract inverts the chain, block by block. -/
theorem cbcDecryptInvertsCbcEncrypt : Obligations.CbcDecryptInvertsCbcEncrypt :=
  fun key n iv p => cbcDecrypt_cbcEncrypt (blockDecrypt_blockEncrypt key) n iv p

/-! ### The closed forms with the dropped block (R104 to R107) -/

/-- The third of three blocks. -/
theorem Bytes.third_block (a b c : Block) (l : List Byte) :
    ((a.bytes ++ (b.bytes ++ (c.bytes ++ l))).drop 32).take 16 = c.bytes := by
  rw [← List.append_assoc, List.drop_left' (by simp)]
  exact List.take_left' (by simp)

/-- R102: the third block of a chain is chained from the second block of the closed form. -/
theorem cbcEncrypt_block_two (encBlock : Block → Block) (iv : Block) (p : Bytes 48) :
    (cbcEncrypt encBlock 3 iv p).block 2 (by omega) =
      encBlock ((p.slice 32 16 (by omega)).xor
        ((closedEncrypt encBlock iv (p.slice 0 32 (by omega))).slice 16 16 (by omega))) := by
  have second : (closedEncrypt encBlock iv (p.slice 0 32 (by omega))).slice 16 16 (by omega) =
      encBlock ((p.slice 16 16 (by omega)).xor (encBlock ((p.slice 0 16 (by omega)).xor iv))) :=
    (Bytes.slice_append_right _ _ _).trans (by simp only [Bytes.slice_slice])
  rw [second]
  apply Bytes.ext_bytes
  rw [Bytes.block, Bytes.bytes_slice, cbcEncrypt_bytes, cbcEncrypt_bytes, cbcEncrypt_bytes, Bytes.third_block]
  simp only [Bytes.slice_slice]

/-- R103: the third block of a decrypted chain is chained from the second ciphertext block. -/
theorem cbcDecrypt_block_two (decBlock : Block → Block) (iv : Block) (c : Bytes 48) :
    (cbcDecrypt decBlock 3 iv c).block 2 (by omega) =
      (decBlock (c.slice 32 16 (by omega))).xor (c.slice 16 16 (by omega)) := by
  apply Bytes.ext_bytes
  rw [Bytes.block, Bytes.bytes_slice, cbcDecrypt_bytes, cbcDecrypt_bytes, cbcDecrypt_bytes, Bytes.third_block]
  simp only [Bytes.slice_slice]

/-- R104: the dropped block of `encrypt` encrypts the pad, chained from the second block of the result. -/
theorem encrypt48_block_two (encBlock : Block → Block) (iv : Block) (p : Bytes 32) :
    (encrypt48 encBlock iv p).block 2 (by omega) =
      encBlock (padBlock.xor ((closedEncrypt encBlock iv p).slice 16 16 (by omega))) := by
  have front : (p.append padBlock).slice 0 32 (by omega) = p := Bytes.slice_append_left _ _ _
  have pad : (p.append padBlock).slice 32 16 (by omega) = padBlock := Bytes.slice_append_right _ _ _
  rw [encrypt48, cbcEncrypt_block_two, front, pad]

/-- R107: the dropped block of `decrypt` is the pad, for the rebuilt ciphertext block encrypts it. -/
theorem decrypt48_block_two {encBlock decBlock : Block → Block} (inv : Function.LeftInverse decBlock encBlock)
    (iv : Block) (c : Bytes 32) : (decrypt48 encBlock decBlock iv c).block 2 (by omega) = padBlock := by
  have second : (c.append (encryptedPad encBlock c)).slice 16 16 (by omega) = c.block 1 (by omega) :=
    Bytes.ext_bytes (by simp [Bytes.block, List.drop_append])
  have third : (c.append (encryptedPad encBlock c)).slice 32 16 (by omega) = encryptedPad encBlock c :=
    Bytes.slice_append_right _ _ _
  rw [decrypt48, cbcDecrypt_block_two, second, third, encryptedPad, inv, Bytes.xor_xor_cancel]

/-- Settles O27: the closed form, and the third block chained from its second. -/
theorem encryptHasItsClosedForm : Obligations.EncryptHasItsClosedForm := fun encBlock iv p =>
  ⟨encryptWith_eq_closedEncrypt encBlock iv p, encrypt48_block_two encBlock iv p, by
    rw [encrypt48_block_two, encryptWith_eq_closedEncrypt, encryptedPad]
    rfl⟩

/-- R105: `encrypt` under a key. -/
theorem encrypt_eq_closedEncrypt (key : Bytes 16) (iv : Block) (p : Bytes 32) :
    encrypt key iv p = closedEncrypt (blockEncrypt key) iv p :=
  encryptWith_eq_closedEncrypt _ iv p

/-- R107: `decrypt` under a key. -/
theorem decrypt_eq_closedDecrypt (key : Bytes 16) (iv : Block) (c : Bytes 32) :
    decrypt key iv c = closedDecrypt (blockDecrypt key) iv c :=
  decryptWith_eq_closedDecrypt _ _ iv c

/-- Settles O28: the closed form, and the block cipher's contract for the third block. -/
theorem decryptHasItsClosedForm : Obligations.DecryptHasItsClosedForm := fun key iv c =>
  ⟨decrypt_eq_closedDecrypt key iv c, by
    rw [decrypt48_block_two (blockDecrypt_blockEncrypt key)]
    rfl⟩

/-! ### The two bijections (R109) -/

/-- R109: on closed forms the other direction of the round trip needs that the block encryption undoes the block
decryption. -/
theorem closedEncrypt_closedDecrypt {encBlock decBlock : Block → Block}
    (inv : Function.RightInverse decBlock encBlock) (iv : Block) (c : Bytes 32) :
    closedEncrypt encBlock iv (closedDecrypt decBlock iv c) = c := by
  have p0 : (closedDecrypt decBlock iv c).slice 0 16 (by omega) =
      (decBlock (c.slice 0 16 (by omega))).xor iv := Bytes.slice_append_left _ _ _
  have p1 : (closedDecrypt decBlock iv c).slice 16 16 (by omega) =
      (decBlock (c.slice 16 16 (by omega))).xor (c.slice 0 16 (by omega)) := Bytes.slice_append_right _ _ _
  simp only [closedEncrypt, p0, p1, Bytes.xor_xor_cancel, inv _]
  exact Bytes.append_slices (m := 16) (n := 16) c

/-- R108: `decrypt` is a left inverse of `encrypt`. -/
theorem decrypt_encrypt (key : Bytes 16) (iv : Block) : Function.LeftInverse (decrypt key iv) (encrypt key iv) :=
  decryptInvertsEncrypt key iv

/-- R109: `decrypt` is a right inverse of `encrypt`. -/
theorem encrypt_decrypt (key : Bytes 16) (iv : Block) : Function.RightInverse (decrypt key iv) (encrypt key iv) :=
  fun c => by
    rw [encrypt_eq_closedEncrypt, decrypt_eq_closedDecrypt]
    exact closedEncrypt_closedDecrypt (blockEncrypt_blockDecrypt key) iv c

/-- Settles O30: each function is a left and a right inverse of the other. -/
theorem encryptAndDecryptAreInverseBijections : Obligations.EncryptAndDecryptAreInverseBijections := fun key iv =>
  ⟨encrypt_decrypt key iv, decrypt_encrypt key iv,
    ⟨(decrypt_encrypt key iv).injective, (encrypt_decrypt key iv).surjective⟩,
    ⟨(encrypt_decrypt key iv).injective, (decrypt_encrypt key iv).surjective⟩⟩

/-! ### `ENC` and `DEC` on the machine (R104, R106) -/

/-- R44: a packet is the operand of its bytes. -/
theorem packetOperand_of_bytes {inp : List Byte} {p : Bytes 32} (h : inp = p.bytes) : packetOperand inp = some p :=
  h ▸ Bytes.ofList?_bytes p

/-- R44: a command is the operand of its bytes. -/
theorem commandOperand_of_bytes {inp : List Byte} {command : Bytes 6} (h : inp = command.bytes) :
    commandOperand inp = some command :=
  h ▸ Bytes.ofList?_bytes command

/-- R108: decryption by the machine undoes encryption by one with the same constants. -/
theorem State.decrypt_encrypt {s s' : State} (h : s'.constants = s.constants) (p : Bytes 32) :
    s'.decrypt (s.encrypt p) = p := by
  rw [State.decrypt_congr h]
  exact Machine.decrypt_encrypt s.constants.key s.constants.iv p

/-- Settles O31: the operand is there, and `encrypt` has its closed form. -/
theorem encReturnsTheClosedForm : Obligations.EncReturnsTheClosedForm := by
  intro s p hp
  rw [exec_enc_of_operand (packetOperand_of_bytes hp), State.encrypt, encrypt_eq_closedEncrypt]
  rfl

/-- Settles O32: the operand is there, and `decrypt` has its closed form. -/
theorem decReturnsTheClosedForm : Obligations.DecReturnsTheClosedForm := by
  intro s c hc
  rw [exec_dec_of_operand (packetOperand_of_bytes hc), State.decrypt, decrypt_eq_closedDecrypt]
  rfl

/-- Settles O33: `DEC` finds the 32 bytes that `ENC` returned, under the same constants. -/
theorem decOfEncGivesThePlaintextBack : Obligations.DecOfEncGivesThePlaintextBack := by
  intro s p hp
  refine ⟨_, _, exec_enc_of_operand (packetOperand_of_bytes hp),
    exec_dec_of_operand (packetOperand_of_bytes rfl), rfl, ?_⟩
  exact congrArg Bytes.bytes (State.decrypt_encrypt (s := s) rfl p)

end Sys2Proof.Machine
end

section
/-! Proofs of the packet builder family (42_packet_builder.md), its further statements: the layout of the request
plaintext, the closed form of `BUILD`, and what a packet determines. -/

namespace Sys2Proof.Machine

/-! ### The request plaintext (R62) -/

/-- R62: the bytes of a request plaintext. -/
theorem requestPlaintext_bytes (time : Time32) (secret : Bytes 16) (command : Bytes 6) (check : Bytes 2) :
    (requestPlaintext time secret command check).bytes =
      (be32Bytes time).bytes ++ secret.bytes ++ command.bytes ++ check.bytes ++ [0x04, 0x04, 0x04, 0x04] := rfl

section
variable (time : Time32) (secret : Bytes 16) (command : Bytes 6) (check : Bytes 2)

/-- R62: offsets 0..3. -/
theorem requestPlaintext_slice_time :
    (requestPlaintext time secret command check).slice 0 4 (by omega) = be32Bytes time :=
  Bytes.ext_bytes (by simp [requestPlaintext_bytes])

/-- R62: offsets 4..19. -/
theorem requestPlaintext_slice_secret :
    (requestPlaintext time secret command check).slice 4 16 (by omega) = secret :=
  Bytes.ext_bytes (by simp [requestPlaintext_bytes])

/-- R62: offsets 20..25. -/
theorem requestPlaintext_slice_command :
    (requestPlaintext time secret command check).slice 20 6 (by omega) = command :=
  Bytes.ext_bytes (by simp [requestPlaintext_bytes, List.drop_append, List.drop_of_length_le])

/-- R62: offsets 26..27. -/
theorem requestPlaintext_slice_check :
    (requestPlaintext time secret command check).slice 26 2 (by omega) = check :=
  Bytes.ext_bytes (by simp [requestPlaintext_bytes, List.drop_append, List.drop_of_length_le])

/-- R62: offsets 28..31. -/
theorem requestPlaintext_slice_marker :
    ((requestPlaintext time secret command check).slice 28 4 (by omega)).bytes = [0x04, 0x04, 0x04, 0x04] := by
  simp [requestPlaintext_bytes, List.drop_append, List.drop_of_length_le]

/-- R124: the first sixteen bytes. -/
theorem requestPlaintext_slice_block0 :
    (requestPlaintext time secret command check).slice 0 16 (by omega) = requestBlock0 time secret :=
  Bytes.ext_bytes (by simp [requestPlaintext_bytes, requestBlock0, List.take_append])

/-- R124: the last sixteen bytes. -/
theorem requestPlaintext_slice_block1 :
    (requestPlaintext time secret command check).slice 16 16 (by omega) = requestBlock1 secret command check :=
  Bytes.ext_bytes (by simp [requestPlaintext_bytes, requestBlock1, List.drop_append,
    List.drop_of_length_le, List.take_of_length_le])

/-- R64: the window of a request plaintext is the command and the low checksum byte. -/
theorem deviceResponseWindow_requestPlaintext :
    deviceResponseWindow (requestPlaintext time secret command check) =
      command.append (check.slice 0 1 (by omega)) :=
  Bytes.ext_bytes (by
    simp [deviceResponseWindow, requestPlaintext_bytes, List.drop_append, List.take_append, List.drop_of_length_le,
      List.take_of_length_le])

end

/-- Settles O34: each field and each block is its slice. -/
theorem requestPlaintextLayout : Obligations.RequestPlaintextLayout := fun time secret command check =>
  ⟨requestPlaintext_slice_time time secret command check, requestPlaintext_slice_secret time secret command check,
    requestPlaintext_slice_command time secret command check, requestPlaintext_slice_check time secret command check,
    requestPlaintext_slice_marker time secret command check, requestPlaintext_slice_block0 time secret command check,
    requestPlaintext_slice_block1 time secret command check⟩

/-! ### The closed form of `BUILD` (R124) -/

/-- R124: the packet is the closed form on the two blocks of the plaintext. -/
theorem buildPacket_eq_closedBuild (s : State) (command : Bytes 6) : s.buildPacket command = closedBuild s command := by
  rw [State.buildPacket, State.encrypt, encrypt_eq_closedEncrypt, closedEncrypt, requestPlaintext_slice_block0,
    requestPlaintext_slice_block1]
  rfl

/-- R124: the first block of the packet encrypts the time and the secret alone. -/
theorem closedBuild_slice_first (s : State) (command : Bytes 6) :
    (closedBuild s command).slice 0 16 (by omega) =
      blockEncrypt s.constants.key ((requestBlock0 s.time s.constants.secret).xor s.constants.iv) :=
  Bytes.slice_append_left _ _ _

/-- Settles O35: `BUILD` on a command completes with the packet, whose first block has no command in it. -/
theorem buildReturnsTheClosedForm : Obligations.BuildReturnsTheClosedForm := by
  refine ⟨fun s command h => ?_, fun s command command' => ?_⟩
  · rw [exec_build_of_operand (commandOperand_of_bytes h), buildPacket_eq_closedBuild]
    rfl
  · exact (closedBuild_slice_first s command).trans (closedBuild_slice_first s command').symm

/-- R217: the first sixteen bytes of a packet are fixed by the constants and the time. -/
theorem buildPacket_take_sixteen {s s' : State} (hc : s'.constants = s.constants) (ht : s'.time = s.time)
    (command command' : Bytes 6) :
    (s'.buildPacket command').bytes.take 16 = (s.buildPacket command).bytes.take 16 := by
  have front : ∀ (u : State) (c : Bytes 6), (u.buildPacket c).bytes.take 16 =
      (blockEncrypt u.constants.key ((requestBlock0 u.time u.constants.secret).xor u.constants.iv)).bytes := by
    intro u c
    rw [buildPacket_eq_closedBuild, ← closedBuild_slice_first u c]
    rfl
  rw [front, front, hc, ht]

/-- Settles O37: both packets have the first block of the second, and one command gives one packet. -/
theorem sameSecondSameFirstBlock : Obligations.SameSecondSameFirstBlock := by
  intro s s' command command' h h' hc ht
  refine ⟨_, _, exec_build_of_operand (commandOperand_of_bytes h),
    exec_build_of_operand (commandOperand_of_bytes h'), buildPacket_take_sixteen hc ht command command', ?_⟩
  rintro rfl
  exact congrArg Bytes.bytes (State.buildPacket_congr hc ht command')

/-! ### The envelope (R125) -/

/-- R14: the four bytes of a time determine it. -/
theorem be32Bytes_injective : Function.Injective be32Bytes := by
  intro a b h
  have digits := congrArg (fun x : Bytes 4 => x.bytes.map BitVec.toNat) h
  simp only [be32Bytes_toNat, List.cons.injEq, and_true] at digits
  apply BitVec.eq_of_toNat_eq
  have := a.isLt
  have := b.isLt
  omega

/-- R125: a request plaintext determines its time and its command. -/
theorem requestPlaintext_time_command {time time' : Time32} {secret secret' : Bytes 16} {command command' : Bytes 6}
    {check check' : Bytes 2}
    (h : requestPlaintext time' secret' command' check' = requestPlaintext time secret command check) :
    time' = time ∧ command' = command := by
  refine ⟨be32Bytes_injective ?_, ?_⟩
  · rw [← requestPlaintext_slice_time time' secret' command' check', h, requestPlaintext_slice_time]
  · rw [← requestPlaintext_slice_command time' secret' command' check', h, requestPlaintext_slice_command]

/-- R125: under the same constants a packet determines its time and its command. -/
theorem buildPacket_time_command {s s' : State} {command command' : Bytes 6} (hc : s'.constants = s.constants)
    (h : s'.buildPacket command' = s.buildPacket command) : s'.time = s.time ∧ command' = command := by
  simp only [State.buildPacket, State.encrypt_congr hc] at h
  exact requestPlaintext_time_command ((decrypt_encrypt s.constants.key s.constants.iv).injective h)

/-- R125: decryption of a packet is its plaintext. -/
theorem decrypt_buildPacket {s s' : State} (hc : s'.constants = s.constants) (command : Bytes 6) :
    s'.decrypt (s.buildPacket command) =
      requestPlaintext s.time s.constants.secret command (s.checksum command.bytes) :=
  State.decrypt_encrypt hc _

/-- R125: the record of a packet is that of its command and the low checksum byte. -/
theorem parseResponse_buildPacket {s s' : State} (hc : s'.constants = s.constants) (command : Bytes 6) :
    s'.parseResponse (s.buildPacket command) =
      classify (command.append ((s.checksum command.bytes).slice 0 1 (by omega))) := by
  rw [State.parseResponse, decrypt_buildPacket hc, deviceResponseWindow_requestPlaintext]

/-- Settles O36: `DEC` and `PARSE` find the packet on `IN` under the constants it was built with, and the packet
determines the plaintext. -/
theorem builtPacketDecryptsToItsEnvelope : Obligations.BuiltPacketDecryptsToItsEnvelope := by
  refine ⟨fun s command h => ?_, fun s s' command command' hc => buildPacket_time_command hc⟩
  refine ⟨_, _, _, exec_build_of_operand (commandOperand_of_bytes h), rfl,
    exec_dec_of_operand (packetOperand_of_bytes rfl), rfl, ?_,
    exec_parse_of_operand (packetOperand_of_bytes rfl), rfl, ?_⟩
  · exact congrArg Bytes.bytes (decrypt_buildPacket (s := s) rfl command)
  · exact congrArg (fun r => (serialise r).bytes) (parseResponse_buildPacket (s := s) rfl command)

end Sys2Proof.Machine
end

section
/-! Proofs of the response parser family (43_response_parser.md), its further statements: the records and their nine
bytes, `PARSE` by the class of its window, and the sub-formats presented alone. -/

namespace Sys2Proof.Machine

/-! ### The record of each class is legal (R65) -/

/-- R133: an error reply's record. -/
theorem errorRecord_legal (slave raw exc : Byte) : (errorRecord slave raw exc).Legal := by
  refine ⟨?_, by simp [errorRecord], fun _ => rfl, nofun, nofun⟩
  have := toNat_and_low_seven_bits raw
  simp only [errorRecord]
  omega

/-- R134, R136: a read reply's record. -/
theorem readRecord_legal (slave n d0 d1 d2 d3 : Byte) : (readRecord slave n d0 d1 d2 d3).Legal := by
  refine ⟨(by decide : (0x03 : Byte).toNat ≤ 0x7F), by simp [readRecord], nofun, fun m count => ?_, nofun⟩
  cases count
  exact readData_length d0 d1 d2 d3 n

/-- R135: an echo's record. -/
theorem echoRecord_legal {raw : Byte} (bit : raw.getLsbD 7 = false) (other : raw ≠ 0x03) (slave d0 d1 d2 d3 : Byte) :
    (echoRecord slave raw d0 d1 d2 d3).Legal := by
  refine ⟨?_, by simpa [echoRecord] using other, nofun, nofun, fun _ _ => rfl⟩
  have := getLsbD_seven_eq_decide raw
  simp only [bit, Bool.false_eq, decide_eq_false_iff_not] at this
  simp only [echoRecord]
  omega

/-- R65: the record of every window is legal. -/
theorem classify_legal (dr : Bytes 7) : (classify dr).Legal := by
  rcases classify_cases dr with ⟨-, h⟩ | ⟨-, h⟩ | ⟨bit, other, h⟩
  · rw [h]; exact errorRecord_legal _ _ _
  · rw [h]; exact readRecord_legal _ _ _ _ _ _
  · rw [h]; exact echoRecord_legal bit other _ _ _ _ _

/-- R65: a legal record has at most four data bytes. -/
theorem DeviceResponse.Legal.data_length_le {r : DeviceResponse} (legal : r.Legal) : r.data.length ≤ 4 := by
  obtain ⟨-, -, error, read, echo⟩ := legal
  cases err : r.isError with
  | true => rw [error err]; decide
  | false =>
    cases count : r.byteCount with
    | some n => rw [read n count]; exact min_le_right _ _
    | none => exact (echo err count).le

/-- Settles O42: the record of a window is legal, and legal data have at most four bytes. -/
theorem recordOfEveryWindowIsLegal : Obligations.RecordOfEveryWindowIsLegal := fun dr =>
  ⟨classify_legal dr, (classify_legal dr).data_length_le⟩

/-! ### The nine bytes of a record (R66) -/

/-- R66: the four data positions are the data and zeros behind them. -/
theorem dataBytes_eq : ∀ {data : List Byte}, data.length ≤ 4 →
    [dataByte data 0, dataByte data 1, dataByte data 2, dataByte data 3] =
      data ++ List.replicate (4 - data.length) 0x00
  | [], _ | [_], _ | [_, _], _ | [_, _, _], _ | [_, _, _, _], _ => rfl
  | _ :: _ :: _ :: _ :: _ :: _, h => absurd h (by simp)

/-- R66: the bytes of a record, the header before the data positions. -/
theorem serialise_bytes (r : DeviceResponse) :
    (serialise r).bytes =
      [r.slaveAddress, r.functionCode, recordFlags r.isError r.byteCount.isSome, r.byteCount.getD 0x00,
        BitVec.ofNat 8 r.data.length] ++
      [dataByte r.data 0, dataByte r.data 1, dataByte r.data 2, dataByte r.data 3] := rfl

/-- R66: the two flags are added, for they are different bits. -/
theorem recordFlags_eq_add : ∀ e b : Bool,
    recordFlags e b = (if e then 0x01 else 0x00) + (if b then 0x02 else 0x00) := by decide

/-- R66, D6: the host reads the record back from its bytes. -/
theorem deserialise_serialise {r : DeviceResponse} (h : r.data.length ≤ 4) :
    deserialise (serialise r).bytes = some r := by
  obtain ⟨slave, code, count, data, err⟩ := r
  have length : (BitVec.ofNat 8 data.length).toNat = data.length := by
    rw [BitVec.toNat_ofNat]
    exact Nat.mod_eq_of_lt (by simp only at h; omega)
  have bytes : [dataByte data 0, dataByte data 1, dataByte data 2, dataByte data 3].take data.length = data := by
    rw [dataBytes_eq h, List.take_left]
  have present : (if count.isSome then some (count.getD 0x00) else none) = count := by
    cases count <;> rfl
  simp only [serialise, deserialise, length, if_pos h, bytes, flagIsError_recordFlags,
    flagByteCountPresent_recordFlags, present]

/-- R66: `deserialise` reads nine bytes and no other length. -/
theorem length_of_deserialise {out : List Byte} {r : DeviceResponse} (h : deserialise out = some r) :
    out.length = 9 := by
  unfold deserialise at h
  split at h
  next => rfl
  next => cases h

/-- Settles O43: the header and the data positions, the record read back, and the flags of each class. -/
theorem serialisedRecordReadsBack : Obligations.SerialisedRecordReadsBack := by
  refine ⟨fun r h => ?_, fun r => deserialise_serialise,
    fun a c e n d0 d1 d2 d3 => ⟨recordFlags_error, recordFlags_read, recordFlags_echo⟩⟩
  rw [serialise_bytes, dataBytes_eq h, recordFlags_eq_add, ← List.append_assoc]
  cases r.byteCount <;> rfl

/-! ### The nine bytes of each class (R133 to R136) -/

/-- R136: position `i` of a read reply's data is the window's byte where `i` is below the count. -/
theorem dataByte_readData (d0 d1 d2 d3 n : Byte) (i : Nat) :
    dataByte (readData d0 d1 d2 d3 n) i = if i < n.toNat then [d0, d1, d2, d3].getD i 0x00 else 0x00 := by
  simp only [dataByte, readData, List.getD_eq_getElem?_getD, List.getElem?_take]
  split <;> rfl

/-- R66: the bytes of a read reply's record. -/
theorem serialise_readRecord (slave n d0 d1 d2 d3 : Byte) :
    (serialise (readRecord slave n d0 d1 d2 d3)).bytes =
      [slave, 0x03, 0x02, n, BitVec.ofNat 8 (min n.toNat 4),
        if 0 < n.toNat then d0 else 0x00, if 1 < n.toNat then d1 else 0x00,
        if 2 < n.toNat then d2 else 0x00, if 3 < n.toNat then d3 else 0x00] := by
  simp only [serialise_bytes, readRecord, dataByte_readData, readData_length, Option.isSome_some, recordFlags_read]
  rfl

section
variable {dr : Bytes 7}

/-- R66, R133: the bytes of a window's record where bit 7 of the raw code is set. -/
theorem serialise_classify_of_error (bit : (dr.at 1 (by omega)).getLsbD 7 = true) :
    (serialise (classify dr)).bytes =
      [dr.at 0 (by omega), dr.at 1 (by omega) &&& 0x7F, 0x01, 0x00, 0x01, dr.at 2 (by omega), 0x00, 0x00, 0x00] := by
  simp only [classify, errorBit_eq, bit, if_true, serialise_errorRecord]

/-- R66, R134: the bytes of a window's record where the raw code is `0x03`. -/
theorem serialise_classify_of_read (code : dr.at 1 (by omega) = 0x03) :
    (serialise (classify dr)).bytes =
      [dr.at 0 (by omega), 0x03, 0x02, dr.at 2 (by omega), BitVec.ofNat 8 (min (dr.at 2 (by omega)).toNat 4),
        if 0 < (dr.at 2 (by omega)).toNat then dr.at 3 (by omega) else 0x00,
        if 1 < (dr.at 2 (by omega)).toNat then dr.at 4 (by omega) else 0x00,
        if 2 < (dr.at 2 (by omega)).toNat then dr.at 5 (by omega) else 0x00,
        if 3 < (dr.at 2 (by omega)).toNat then dr.at 6 (by omega) else 0x00] := by
  have bit : errorBit 0x03 = false := by decide
  simp only [classify, code, bit, Bool.false_eq_true, if_false, if_true, serialise_readRecord]

/-- R66, R135: the bytes of a window's record for every other raw code. -/
theorem serialise_classify_of_echo (bit : (dr.at 1 (by omega)).getLsbD 7 = false) (other : dr.at 1 (by omega) ≠ 0x03) :
    (serialise (classify dr)).bytes =
      [dr.at 0 (by omega), dr.at 1 (by omega), 0x00, 0x00, 0x04, dr.at 2 (by omega), dr.at 3 (by omega),
        dr.at 4 (by omega), dr.at 5 (by omega)] := by
  simp only [classify, errorBit_eq, bit, Bool.false_eq_true, if_false, other, serialise_echoRecord]

end

/-! ### `PARSE` on any 32 bytes (R130) -/

/-- R64: the bytes of the window of a plaintext. -/
theorem deviceResponseWindow_at (p : Bytes 32) (i : Fin 7) :
    (deviceResponseWindow p).at i.val i.isLt = windowByte p i := by
  simp [deviceResponseWindow, windowByte, Bytes.at, Bytes.slice]

/-- R130: `PARSE` on a packet completes with the record of its window. -/
theorem exec_parse_of_bytes {s : State} {c : Bytes 32} (h : s.inp = c.bytes) :
    exec .parse s = .next (s.complete (serialise (classify (deviceResponseWindow (s.decrypt c)))).bytes) :=
  exec_parse_of_operand (packetOperand_of_bytes h)

/-- Settles O38: the record of the window of the closed form, by the class of its raw code. -/
theorem parseClassifiesTheWindow : Obligations.ParseClassifiesTheWindow := by
  intro s c hc w
  have byte : ∀ i : Fin 7, (deviceResponseWindow (s.decrypt c)).at i.val i.isLt = w i := fun i => by
    rw [State.decrypt, decrypt_eq_closedDecrypt]
    exact deviceResponseWindow_at _ i
  rw [exec_parse_of_bytes hc]
  generalize deviceResponseWindow (s.decrypt c) = dr at byte
  have raw : dr.at 1 (by omega) = w 1 := byte 1
  refine ⟨fun bit => ?_, fun code => ?_, fun bit other => ?_⟩
  · rw [serialise_classify_of_error (raw ▸ bit)]
    simp only [← byte]
    rfl
  · rw [serialise_classify_of_read (raw.trans code)]
    simp only [← byte]
    rfl
  · rw [serialise_classify_of_echo (raw ▸ bit) (raw ▸ other)]
    simp only [← byte]
    rfl

/-! ### The window alone (R137, R138) -/

/-- R138: the window lies in the second block, chained from the first ciphertext block and not from `IV`. -/
theorem deviceResponseWindow_closedDecrypt (decBlock : Block → Block) (iv : Block) (c : Bytes 32) :
    deviceResponseWindow (closedDecrypt decBlock iv c) =
      ((decBlock (c.slice 16 16 (by omega))).xor (c.slice 0 16 (by omega))).slice 4 7 (by omega) := by
  have second : (closedDecrypt decBlock iv c).slice 16 16 (by omega) =
      (decBlock (c.slice 16 16 (by omega))).xor (c.slice 0 16 (by omega)) := Bytes.slice_append_right _ _ _
  rw [← second, Bytes.slice_slice]
  rfl

/-- R138: the window of a notification. -/
theorem deviceResponseWindow_decrypt (s : State) (c : Bytes 32) :
    deviceResponseWindow (s.decrypt c) =
      ((blockDecrypt s.constants.key (c.slice 16 16 (by omega))).xor (c.slice 0 16 (by omega))).slice 4 7
        (by omega) := by
  rw [State.decrypt, decrypt_eq_closedDecrypt, deviceResponseWindow_closedDecrypt]

/-- R138: of the constants `PARSE` reads `KEY` alone. -/
theorem sameOutcome_parse_of_key {s s' : State} (hin : s'.inp = s.inp) (hk : s'.constants.key = s.constants.key) :
    SameOutcome .parse s s' :=
  sameOutcome_parse hin fun c => by
    rw [State.parseResponse, State.parseResponse, deviceResponseWindow_decrypt, deviceResponseWindow_decrypt, hk]

/-- Settles O39: the window in closed form names neither `IV` nor anything else of the state but `KEY`. -/
theorem parseDependsOnTheWindowOnly : Obligations.ParseDependsOnTheWindowOnly :=
  ⟨deviceResponseWindow_decrypt,
    fun _ _ _ _ h h' hw => .of_complete (exec_parse_of_bytes h) (by rw [exec_parse_of_bytes h', hw]),
    fun _ _ => sameOutcome_parse_of_key rfl rfl⟩

/-- Settles O40: decryption gives the plaintext back, and `PARSE` reads its window. -/
theorem parseAcceptsEveryPlaintext : Obligations.ParseAcceptsEveryPlaintext := by
  intro s p h
  rw [exec_parse_of_bytes h, State.decrypt_encrypt rfl]
  rfl

/-! ### The sub-formats presented alone (R64) -/

/-- R64: an error reply's raw code without bit 7. -/
theorem errorCode_and_low_seven_bits : ∀ code : BitVec 7, (1#1 ++ code : Byte) &&& 0x7F = code.zeroExtend 8 := by
  decide +kernel

/-- R64: an echo's raw code is its code. -/
theorem echoCode_eq_zeroExtend (code : BitVec 7) : (0#1 ++ code : Byte) = code.zeroExtend 8 :=
  (BitVec.setWidth_eq_append (by decide)).symm

/-- R135: an echo term with a code other than `0x03`. -/
theorem exec_respEcho_of_other {code : BitVec 7} (other : code ≠ 0x03#7) (slave d0 d1 d2 d3 x6 : Byte) (s : State) :
    exec (.respEcho slave code d0 d1 d2 d3 x6) s =
      .next (s.completeRecord (echoRecord slave (0#1 ++ code) d0 d1 d2 d3)) := by
  simp only [exec, execRespEcho, if_neg other]

/-- Settles O44: each sub-format completes with its record, whose nine bytes are those of its class. -/
theorem windowInstructionsReturnTheirRecord : Obligations.WindowInstructionsReturnTheirRecord := by
  refine ⟨fun s a f e x3 x4 x5 x6 => ?_, fun s a n d0 d1 d2 d3 => ?_, fun s a f d0 d1 d2 d3 x6 other => ?_,
    fun s a d0 d1 d2 d3 x6 => rfl⟩
  · rw [exec, execRespError, State.completeRecord_eq, serialise_errorRecord, errorCode_and_low_seven_bits]
    rfl
  · rw [exec, execRespRead, State.completeRecord_eq, serialise_readRecord]
    rfl
  · rw [exec_respEcho_of_other other, State.completeRecord_eq, serialise_echoRecord, echoCode_eq_zeroExtend]
    rfl

/-- R64, R132: the sub-format that seven bytes decode to completes with the record of the window. -/
theorem exec_decodeWindow {dr : Bytes 7} {b0 b1 b2 b3 b4 b5 b6 : Byte} (h : dr.bytes = [b0, b1, b2, b3, b4, b5, b6])
    (s : State) : exec (decodeWindow b0 b1 b2 b3 b4 b5 b6) s = .next (s.completeRecord (classify dr)) := by
  rw [classify_of_bytes dr _ _ _ _ _ _ _ h]
  by_cases bit : b1 &&& 0x80 ≠ 0
  · rw [decodeWindow_of_error bit, exec, execRespError, errorCode_of_bit_set bit, errorBit, if_pos (by simpa using bit)]
  · rw [errorBit, if_neg (by simpa using bit)]
    by_cases read : b1 = 0x03
    · rw [read, decodeWindow_of_read]
      rfl
    · have code : b1.extractLsb' 0 7 ≠ 0x03#7 := fun code =>
        read ((echoCode_of_bit_clear bit).symm.trans ((echoCode_fields _).2.2.mpr code))
      rw [decodeWindow_of_echo bit read, exec_respEcho_of_other code, echoCode_of_bit_clear bit, if_neg read]

/-- Settles O45: `PARSE` and the sub-format of the window both complete with the window's record. -/
theorem parseRunsTheSubFormatOfItsWindow : Obligations.ParseRunsTheSubFormatOfItsWindow := by
  intro s c hc
  obtain ⟨b0, b1, b2, b3, b4, b5, b6, h⟩ := window_bytes (deviceResponseWindow (s.decrypt c))
  refine ⟨decodeWindow b0 b1 b2 b3 b4 b5 b6, by rw [h, decode_window], ?_⟩
  rw [exec_parse_of_bytes hc, exec_decodeWindow h, State.completeRecord_eq]

/-! ### `PARSE` of a built command (R141) -/

/-- R125, R141: `BUILD` and then `PARSE` of the packet succeeds, and the host reads the record of the command and the
low checksum byte. -/
theorem build_then_parse {s : State} {command : Bytes 6} (h : s.inp = command.bytes) :
    ∃ t u, exec .build s = .next t ∧ exec .parse { t with inp := t.out } = .next u ∧ u.status = 0x00 ∧
      deserialise u.out = some (classify (command.append ((s.checksum command.bytes).slice 0 1 (by omega)))) := by
  refine ⟨_, _, exec_build_of_operand (commandOperand_of_bytes h),
    exec_parse_of_operand (packetOperand_of_bytes rfl), rfl, ?_⟩
  have record := parseResponse_buildPacket (s := s)
    (s' := { s.complete (s.buildPacket command).bytes with inp := (s.buildPacket command).bytes }) rfl command
  exact (congrArg (fun r => deserialise (serialise r).bytes) record).trans
    (deserialise_serialise (classify_legal _).data_length_le)

/-- R125: the window of a built command, its seven bytes. -/
theorem command_window_bytes {command : Bytes 6} {b0 b1 b2 b3 b4 b5 : Byte}
    (h : command.bytes = [b0, b1, b2, b3, b4, b5]) (check : Bytes 2) :
    (command.append (check.slice 0 1 (by omega))).bytes = [b0, b1, b2, b3, b4, b5, check.at 0 (by omega)] := by
  obtain ⟨l, hl⟩ := check
  match l, hl with
  | [lo, hi], _ => simp [h, Bytes.at]

/-- Settles O46: a read command's code makes its record a read reply, a write command's an echo. -/
theorem parseOfABuiltCommand : Obligations.ParseOfABuiltCommand := by
  refine ⟨fun s rh rl h => ?_, fun s rh rl vh vl h => ?_⟩
  · obtain ⟨t, u, build, parse, status, record⟩ := build_then_parse (command := ⟨_, rfl⟩) h
    refine ⟨t, u, build, parse, status, record.trans ?_⟩
    rw [classify_of_bytes _ _ _ _ _ _ _ _ (command_window_bytes rfl _), h]
    rfl
  · obtain ⟨t, u, build, parse, status, record⟩ := build_then_parse (command := ⟨_, rfl⟩) h
    refine ⟨t, u, build, parse, status, record.trans ?_⟩
    rw [classify_of_bytes _ _ _ _ _ _ _ _ (command_window_bytes rfl _)]
    rfl

end Sys2Proof.Machine
end

section
/-! Proofs of the catalog and decoders family (44_catalog_and_decoders.md), its further statements: the builders with
their `BUILD`, the rounding and the range checks, the commands as words of the catalog, and the decoders on the
machine. -/

namespace Sys2Proof.Machine

/-! ### The builders that check no range (R150, R152, R157, R158) -/

/-- R76: a builder that issues the `BUILD` of some bytes runs the `BUILD` of the command of these bytes. -/
theorem runsBuildOf_of_issueBuild {i : Instr} {s : State} {command command' : Bytes 6}
    (h : exec i s = .next (s.issueBuild command')) (hb : command'.bytes = command.bytes) : RunsBuildOf i command s := by
  obtain rfl : command' = command := Bytes.ext_bytes hb
  rw [RunsBuildOf, h, State.issueBuild_eq, buildPacket_eq_closedBuild]
  rfl

/-- Settles O49: `read(register)` issues its command. -/
theorem readRegisterBuildsItsCommand : Obligations.ReadRegisterBuildsItsCommand :=
  fun _ _ => runsBuildOf_of_issueBuild rfl rfl

/-- Settles O50: each named read issues the read command of its register. -/
theorem namedReadsUseTheirRegisters : Obligations.NamedReadsUseTheirRegisters :=
  ⟨fun _ => ⟨runsBuildOf_of_issueBuild rfl rfl, runsBuildOf_of_issueBuild rfl rfl, runsBuildOf_of_issueBuild rfl rfl⟩,
    rfl, rfl, rfl⟩

/-- Settles O51: each switch builder issues the write command of its register and value. -/
theorem switchBuildersMakeTheirCommand : Obligations.SwitchBuildersMakeTheirCommand := fun _ =>
  ⟨runsBuildOf_of_issueBuild rfl rfl, runsBuildOf_of_issueBuild rfl rfl, runsBuildOf_of_issueBuild rfl rfl,
    runsBuildOf_of_issueBuild rfl rfl, runsBuildOf_of_issueBuild rfl rfl, runsBuildOf_of_issueBuild rfl rfl⟩

/-- Settles O60: the rows of one word issue one command. -/
theorem rowsOfOneWordHaveOneMeaning : Obligations.RowsOfOneWordHaveOneMeaning := fun _ => ⟨rfl, rfl, rfl⟩

/-! ### The bytes of a written number (R14, R72) -/

/-- R14: the high byte of a number of 16 bits. -/
theorem hiByte_ofInt {v : Int} (least : 0 ≤ v) (greatest : v ≤ 65535) :
    hiByte (BitVec.ofInt 16 v) = BitVec.ofInt 8 (v / 256) := by
  apply BitVec.eq_of_toNat_eq
  rw [hiByte_toNat, BitVec.toNat_ofInt, BitVec.toNat_ofInt]
  omega

/-- R14: the low byte of a number. -/
theorem loByte_ofInt (v : Int) : loByte (BitVec.ofInt 16 v) = BitVec.ofInt 8 (v % 256) := by
  apply BitVec.eq_of_toNat_eq
  rw [loByte_toNat, BitVec.toNat_ofInt, BitVec.toNat_ofInt]
  omega

/-- R72: the bytes of a write command of a number. -/
theorem writeCommand_ofInt_bytes (reg : Word16) {v : Int} (least : 0 ≤ v) (greatest : v ≤ 65535) :
    (writeCommand reg (BitVec.ofInt 16 v)).bytes =
      [0x01, 0x06, hiByte reg, loByte reg, BitVec.ofInt 8 (v / 256), BitVec.ofInt 8 (v % 256)] := by
  rw [← hiByte_ofInt least greatest, ← loByte_ofInt]
  rfl

/-! ### `setTemperature` (R153) -/

/-- R153: the one nearest integer is the rounded value. -/
theorem roundNearest_of_near {num v : Int} {den : Nat} (near : 2 * |num - v * den| < den) :
    roundNearest num den = v := by
  obtain ⟨below, above⟩ := abs_lt.mp (show |num - v * den| < (den : Int) by have := abs_nonneg (num - v * den); omega)
  have positive : (0 : Int) < den := by omega
  rcases le_or_gt 0 (num - v * den) with up | down
  · rw [abs_of_nonneg up] at near
    obtain ⟨quotient, remainder⟩ := (Int.ediv_emod_unique (a := num) (q := v) (r := num - v * den) positive).mpr
      ⟨by ring, up, above⟩
    simp only [roundNearest, quotient, remainder, if_pos near]
  · rw [abs_of_neg down] at near
    obtain ⟨quotient, remainder⟩ :=
      (Int.ediv_emod_unique (a := num) (q := v - 1) (r := num - v * den + den) positive).mpr
        ⟨by ring, by omega, by omega⟩
    simp only [roundNearest, quotient, remainder]
    rw [if_neg (by omega), if_pos (by omega)]
    omega

/-- R153: at a tie above `v` the rounded value is `v` or `v + 1`, as `ROUND_TIES` says. -/
theorem roundNearest_of_tie {num v : Int} {den : Nat} (positive : 0 < den) (tie : 2 * (num - v * den) = den) :
    roundNearest num den = if Config.roundTieUp v then v + 1 else v := by
  obtain ⟨quotient, remainder⟩ := (Int.ediv_emod_unique (a := num) (b := den) (q := v) (r := num - v * den)
    (by omega)).mpr ⟨by ring, by omega, by omega⟩
  simp only [roundNearest, quotient, remainder]
  rw [if_neg (by omega), if_neg (by omega)]

/-- R153: a call whose rounded value has 16 bits builds its write command, and any other is refused. -/
theorem exec_setTemperature_of_tenths (s : State) {c : Decimal} {v : Int} (h : temperatureTenths c = v) :
    (0 ≤ v ∧ v ≤ 65535 → RunsBuildOf (.setTemperature c)
      ⟨[0x01, 0x06, 0x05, 0x25, BitVec.ofInt 8 (v / 256), BitVec.ofInt 8 (v % 256)], rfl⟩ s) ∧
    (¬ (0 ≤ v ∧ v ≤ 65535) → exec (.setTemperature c) s = .refused .temperatureOutOfRange) := by
  refine ⟨fun range => ?_, fun range => ?_⟩
  · have command : setTemperatureCommand c = some (writeCommand 0x0525 (BitVec.ofInt 16 v)) := by
      simp only [setTemperatureCommand, h, if_pos range]
    exact runsBuildOf_of_issueBuild (by simp only [exec, execSetTemperature, command])
      (writeCommand_ofInt_bytes 0x0525 range.1 range.2)
  · have command : setTemperatureCommand c = none := by simp only [setTemperatureCommand, h, if_neg range]
    simp only [exec, execSetTemperature, command]

/-- R153: the value nearest to `celsius * 10`. -/
theorem temperatureTenths_of_near {c : Decimal} {v : Int}
    (near : 2 * |c.mantissa * 10 - v * 10 ^ c.places| < 10 ^ c.places) : temperatureTenths c = v :=
  roundNearest_of_near (by push_cast; exact near)

/-- R153: the value of a tie above `v`. -/
theorem temperatureTenths_of_tie {c : Decimal} {v : Int}
    (tie : 2 * (c.mantissa * 10 - v * 10 ^ c.places) = 10 ^ c.places) :
    temperatureTenths c = if Config.roundTieUp v then v + 1 else v :=
  roundNearest_of_tie (by positivity) (by push_cast; exact tie)

/-- Settles O52: the rounded value is the nearest one, or at a tie the one that `ROUND_TIES` takes for the lower
neighbour. -/
theorem setTemperatureWritesTheNearestTenth : Obligations.SetTemperatureWritesTheNearestTenth := by
  refine ⟨fun s c v near => exec_setTemperature_of_tenths s (temperatureTenths_of_near near), fun v => ?_, fun s => ?_⟩
  · refine ⟨if Config.roundTieUp v then v + 1 else v, by split <;> simp, fun s c tie => ?_⟩
    exact exec_setTemperature_of_tenths s (temperatureTenths_of_tie tie)
  · exact (exec_setTemperature_of_tenths s (c := ⟨215, 1⟩) (v := 215) (temperatureTenths_of_near (by norm_num))).1
      (by norm_num)

/-! ### The builders with a range check (R154 to R156) -/

/-- R154 to R156: a number in the checked range has its write command. -/
theorem rangedCommand_of_range (reg : Word16) {least greatest value : Int} (range : least ≤ value ∧ value ≤ greatest) :
    rangedCommand reg least greatest value = some (writeCommand reg (BitVec.ofInt 16 value)) :=
  if_pos range

/-- R154 to R156: a number outside the checked range has none. -/
theorem rangedCommand_of_outside (reg : Word16) {least greatest value : Int}
    (outside : value < least ∨ greatest < value) : rangedCommand reg least greatest value = none :=
  if_neg (by omega)

section
variable {i : Instr} {s : State} {reg : Word16} {least greatest value : Int}

/-- R154 to R156: a builder whose check holds builds the command of its one-byte value. -/
theorem runsBuildOf_of_rangedCommand (h : exec i s = .next (s.issueChecked (rangedCommand reg least greatest value)))
    (range : least ≤ value ∧ value ≤ greatest) (byte : 0 ≤ least ∧ greatest ≤ 255) :
    RunsBuildOf i ⟨[0x01, 0x06, hiByte reg, loByte reg, 0x00, BitVec.ofInt 8 value], rfl⟩ s := by
  rw [rangedCommand_of_range reg range] at h
  refine runsBuildOf_of_issueBuild h ?_
  have high : value / 256 = 0 := by omega
  have low : value % 256 = value := by omega
  rw [writeCommand_ofInt_bytes reg (by omega) (by omega), high, low]
  rfl

/-- R154 to R156, R181: a builder whose check fails reports on the host alone. -/
theorem exec_of_rangedCommand_outside (h : exec i s = .next (s.issueChecked (rangedCommand reg least greatest value)))
    (outside : value < least ∨ greatest < value) : exec i s = .next { s with hostResult := .validationError } := by
  rw [h, rangedCommand_of_outside reg outside]
  rfl

end

/-- Settles O53: each builder issues its ranged command or fails its check. -/
theorem rangedBuildersCheckTheirArgument : Obligations.RangedBuildersCheckTheirArgument := fun _ _ =>
  ⟨fun range => runsBuildOf_of_rangedCommand (reg := 0x0440) (least := 1) (greatest := 5) rfl range (by decide),
    exec_of_rangedCommand_outside (reg := 0x0440) rfl,
    fun range => runsBuildOf_of_rangedCommand (reg := 0x054B) (least := 0) (greatest := 5) rfl range (by decide),
    exec_of_rangedCommand_outside (reg := 0x054B) rfl,
    fun range => runsBuildOf_of_rangedCommand (reg := 0x054D) (least := 0) (greatest := 5) rfl range (by decide),
    exec_of_rangedCommand_outside (reg := 0x054D) rfl⟩

/-! ### The commands are words of the catalog (R71, R72) -/

/-- R71: a read command is a word of the catalog. -/
theorem readCommand_legal (reg : Word16) : LegalHostResult (.command (readCommand reg)) :=
  ⟨_, decode_encodeRead reg⟩

/-- R72: a write command that some builder makes is a word of the catalog. -/
theorem writeCommand_legal {reg value : Word16} {i : Instr} (h : decodeWrite reg value = some i) :
    LegalHostResult (.command (writeCommand reg value)) :=
  ⟨i, decode_encodeWrite h⟩

/-- R153: a command of `setTemperature` writes a number of 16 bits. -/
theorem setTemperatureCommand_legal {celsius : Decimal} {command : Bytes 6}
    (h : setTemperatureCommand celsius = some command) : LegalHostResult (.command command) := by
  simp only [setTemperatureCommand] at h
  split at h
  next range =>
    cases h
    exact writeCommand_legal (decodeWrite_setTemperature range.1 range.2)
  next => cases h

/-- R154 to R156: a ranged command writes a number that passed the check. -/
theorem rangedCommand_legal {reg : Word16} {least greatest value : Int} {command : Bytes 6} {i : Instr}
    (h : rangedCommand reg least greatest value = some command)
    (word : least ≤ value → value ≤ greatest → decodeWrite reg (BitVec.ofInt 16 value) = some i) :
    LegalHostResult (.command command) := by
  unfold rangedCommand at h
  split at h
  next range =>
    cases h
    exact writeCommand_legal (word range.1 range.2)
  next => cases h

/-- R180: a command that is a word of the catalog, as the one a builder has. -/
theorem legal_of_eq_some {command : Bytes 6} (legal : LegalHostResult (.command command)) :
    ∀ c, some command = some c → LegalHostResult (.command c) :=
  fun _ h => Option.some_inj.mp h ▸ legal

/-- R76: what a builder that answers does; the command it issues is a word of the catalog. -/
theorem exec_builder_next {i : Instr} {s t : State} (hi : ¬ BlockInstr i) (h : exec i s = .next t) :
    ∃ command, t = s.issueChecked command ∧ ∀ c, command = some c → LegalHostResult (.command c) := by
  cases i with
  | readRegister reg =>
    cases h
    exact ⟨some (readCommand reg), rfl, legal_of_eq_some (readCommand_legal reg)⟩
  | readPower | readPowerLevel =>
    cases h
    exact ⟨some (readCommand 0x0529), rfl, legal_of_eq_some (readCommand_legal 0x0529)⟩
  | readAmbientTemperature =>
    cases h
    exact ⟨some (readCommand 0x0525), rfl, legal_of_eq_some (readCommand_legal 0x0525)⟩
  | setPower on =>
    cases h
    exact ⟨some (setPowerCommand on), rfl, legal_of_eq_some (writeCommand_legal (decodeWrite_setPower on))⟩
  | setTemperature celsius =>
    cases hc : setTemperatureCommand celsius with
    | some command =>
      simp only [exec, execSetTemperature, hc] at h
      cases h
      exact ⟨some command, rfl, fun _ h => setTemperatureCommand_legal (hc.trans h)⟩
    | none =>
      simp only [exec, execSetTemperature, hc] at h
      cases h
  | setPowerLevel level =>
    cases h
    exact ⟨setPowerLevelCommand level, rfl, fun _ hc => rangedCommand_legal hc fun least greatest =>
      decodeWrite_setPowerLevel (by omega) (by omega)⟩
  | setFan1Speed speed =>
    cases h
    exact ⟨setFan1SpeedCommand speed, rfl, fun _ hc => rangedCommand_legal hc fun least greatest =>
      decodeWrite_setFan1Speed least (by omega)⟩
  | setFan2Speed speed =>
    cases h
    exact ⟨setFan2SpeedCommand speed, rfl, fun _ hc => rangedCommand_legal hc fun least greatest =>
      decodeWrite_setFan2Speed least (by omega)⟩
  | setAutoMode enabled =>
    cases h
    exact ⟨some (setAutoModeCommand enabled), rfl,
      legal_of_eq_some (writeCommand_legal (decodeWrite_setAutoMode enabled))⟩
  | setStandby enabled =>
    cases h
    exact ⟨some (setStandbyCommand enabled), rfl,
      legal_of_eq_some (writeCommand_legal (decodeWrite_setStandby enabled))⟩
  | _ => exact absurd trivial hi

/-! ### The decoders on the machine (R159 to R164) -/

section
variable {s : State} {d : ValueDecoder} {r : DeviceResponse}

/-- R159: a decoder request is the decoder on the record that stands on `OUT`. -/
theorem step_decoder_of_result {result : HostResult} (hout : s.out = (serialise r).bytes) (hlen : r.data.length ≤ 4)
    (h : decodeRecord d r = some result) :
    step (s.request (.decoder d)) = .next { s with busy := false, hostResult := result } := by
  have record : deserialise s.endOperation.out = some r := hout ▸ deserialise_serialise hlen
  simp only [step_request, performRequest, runDecoder, record, h]
  rfl

/-- R164: a decoder request is refused where the decoder makes nothing of the record that stands on `OUT`. -/
theorem step_decoder_of_none (hout : s.out = (serialise r).bytes) (hlen : r.data.length ≤ 4)
    (h : decodeRecord d r = none) : step (s.request (.decoder d)) = .refused .shortRecord := by
  have record : deserialise s.endOperation.out = some r := hout ▸ deserialise_serialise hlen
  simp only [step_request, performRequest, runDecoder, record, h]

end

/-- Settles O54: the decoder raises the exception code of the record on `OUT`. -/
theorem decodersRaiseProtocolError : Obligations.DecodersRaiseProtocolError := by
  intro s d r code hout err hdata
  exact step_decoder_of_result hout (by simp [hdata]) (decodeRecord_of_isError d err hdata)

/-- Settles O55: each decoder takes its value of the first two data bytes of the record on `OUT`. -/
theorem decodersReadTheFirstTwoBytes : Obligations.DecodersReadTheFirstTwoBytes := by
  intro s r hi lo more hout err hdata hmore
  have value : ∀ d : ValueDecoder, step (s.request (.decoder d)) =
      .next { s with busy := false, hostResult := .value (decodedValue d hi lo) } := fun d =>
    step_decoder_of_result hout (by simp only [hdata, List.length_cons]; omega) (decodeRecord_of_data d err hdata)
  have clamp : min (max lo.toNat 1) 5 = if lo.toNat < 1 then 1 else if 5 < lo.toNat then 5 else lo.toNat := by
    split_ifs <;> omega
  refine ⟨?_, ?_, ?_, ?_⟩
  · rw [value, decodedValue_boolean]
  · rw [value, decodedValue_temperature]
  · rw [value, decodedValue_number]
  · rw [value, decodedValue_powerLevel, clamp]

/-- Settles O56: the record on `OUT` has no two data bytes to read. -/
theorem decodersRefuseShortRecords : Obligations.DecodersRefuseShortRecords := by
  intro s d r hout err short
  exact step_decoder_of_none hout (by omega) (decodeRecord_of_short_data d err short)

/-- R161 to R163: a decoder's value lies in its range. -/
theorem decodedValue_legal (d : ValueDecoder) (hi lo : Byte) : LegalHostResult (.value (decodedValue d hi lo)) := by
  have number := (be16 hi lo).isLt
  cases d with
  | boolean => trivial
  | temperature => exact ⟨rfl, Int.natCast_nonneg _, by simp only [Int.ofNat_eq_natCast]; omega⟩
  | number => exact Nat.le_of_lt_succ number
  | powerLevel => exact ⟨by omega, by omega⟩

/-- R159: what a decoder makes of a record is a value in range or a protocol error. -/
theorem decodeRecord_legal {d : ValueDecoder} {r : DeviceResponse} {result : HostResult}
    (h : decodeRecord d r = some result) : LegalHostResult result := by
  unfold decodeRecord at h
  split at h
  next =>
    split at h
    next => cases h; trivial
    next => cases h
  next =>
    split at h
    next hi lo _ _ => cases h; exact decodedValue_legal d hi lo
    next => cases h

end Sys2Proof.Machine
end

section
/-! Proofs of the state, memory, exception and reset families (10_state.md, 20_memory.md, 60_exceptions.md,
70_reset_and_hazards.md), their further statements: requests and steps, transactions, frames, and what each operation
reads. -/

namespace Sys2Proof.Machine

/-! ### Reset and waiting (R211) -/

/-- R211: a reset in the middle of an operation is taken and abandons it. -/
theorem step_of_flight_reset {s : State} {rest : List Request} (hb : s.busy = true) (h : s.pending = .reset :: rest) :
    step s = .next { s with pending := rest }.resetBlock := by
  simp only [step, hb, if_true, continueOperation, h]

/-- Settles O2: a reset request and a reset in flight are `resetBlock`, and an issue reports nothing. -/
theorem resetRequestClearsTheOutcome : Obligations.ResetRequestClearsTheOutcome :=
  ⟨fun s => step_request s .reset, fun _ _ => step_of_flight_reset, fun s op operand time =>
    ⟨_, step_request (s.request .reset) (.issue op operand time), rfl, rfl, rfl, step_of_flight_reset rfl rfl⟩⟩

/-- Settles O3: nothing in flight and nothing pending is the idle step, and reset leaves it so. -/
theorem blockWithoutRequestDoesNothing : Obligations.BlockWithoutRequestDoesNothing :=
  ⟨fun _ => step_of_idle, step_of_idle rfl rfl⟩

/-! ### The request decides the instruction (R31, R69, R76) -/

/-- R69, R76: a call runs its instruction with its code on `OP` where it has one. -/
theorem selectOp_eq_getD (s : State) (i : Instr) : s.selectOp i = { s with op := i.opCode?.getD s.op } := by
  unfold State.selectOp
  cases i.opCode? <;> rfl

/-- R71, R72: a word that decodes runs its instruction. -/
theorem performWord_of_decode {word : List Byte} {i : Instr} (h : decode word = .ok i) (s : State) :
    performWord word s = exec i s := by
  simp only [performWord, h]

/-- A table word that decodes is the word of the instruction. -/
theorem decode_of_decodeTableWord {nbits w : Nat} {i : Instr} (h : decodeTableWord nbits w = some i) :
    decode (beBytes ((nbits + 7) / 8) w).bytes = .ok i := by
  unfold decodeTableWord at h
  split at h
  next j hj => cases h; exact hj
  next => cases h

/-- R69: an operation request runs the operation its code selects. -/
theorem step_operation_of_decode (s : State) {op : Byte} (operand : List Byte) (time : Time32) {i : Instr}
    (h : decode [op] = .ok i) :
    step (s.request (.operation op operand time)) =
      exec i { s with op := op, inp := operand, time := time, busy := false } :=
  (step_request s _).trans (performOperation_of_decode (s := s.endOperation.present op operand time) h)

/-- R71, R72: a catalog request runs the builder of its word. -/
theorem step_catalogWord_of_decode (s : State) {w : Bytes 6} (time : Time32) {i : Instr} (h : decode w.bytes = .ok i) :
    step (s.request (.catalogWord w time)) = exec i { s with time := time, busy := false } :=
  (step_request s _).trans (performWord_of_decode h (s.endOperation.withTime time))

/-- R64: a window request runs the sub-format of its word. -/
theorem step_window_of_decode (s : State) {w : Bytes 7} {i : Instr} (h : decode w.bytes = .ok i) :
    step (s.request (.window w)) = exec i { s with busy := false } :=
  (step_request s _).trans (performWord_of_decode h s.endOperation)

/-- R76: a call runs the instruction it names. -/
theorem step_call (s : State) (i : Instr) (time : Time32) :
    step (s.request (.call i time)) = exec i { s with time := time, op := i.opCode?.getD s.op, busy := false } :=
  (step_request s _).trans (congrArg (exec i) (selectOp_eq_getD _ i))

/-- The one byte of an 8-bit table word. -/
theorem beBytes_one_bytes (w : Nat) : (beBytes 1 w).bytes = [BitVec.ofNat 8 w] := rfl

/-- Settles O8: each kind of request by its lemma; a table word is the request of its width; an issued operation is
completed as the same operation request. -/
theorem stepRunsTheDecodedInstruction : Obligations.StepRunsTheDecodedInstruction := by
  refine ⟨fun s op operand time i => step_operation_of_decode s operand time,
    fun s w time i => step_catalogWord_of_decode s time, fun s w i => step_window_of_decode s, step_call,
    fun s w i h => ?_, fun s w i h => ?_, fun s w i h => ?_, fun s op operand time => ⟨?_, fun noReset => ?_⟩⟩
  · exact step_operation_of_decode s s.inp s.time (beBytes_one_bytes w ▸ decode_of_decodeTableWord h)
  · exact step_catalogWord_of_decode s s.time (decode_of_decodeTableWord h)
  · exact step_window_of_decode s (decode_of_decodeTableWord h)
  · exact step_request s (.issue op operand time)
  · exact (step_of_flight (s := { s with op := op, inp := operand, time := time, busy := true }) rfl noReset).trans
      (step_request s (.operation op operand time)).symm

/-! ### Transactions (R74, R183, R186, R216) -/

/-- Settles O9: the five codes aside, the operation select is reserved. -/
theorem reservedOpReportsIllegalOp : Obligations.ReservedOpReportsIllegalOp := by
  intro s op operand time h1 h2 h3 h4 h5
  rw [step_request]
  rcases decode_op_cases op with ⟨h, -⟩ | ⟨h, -⟩ | ⟨h, -⟩ | ⟨h, -⟩ | ⟨h, -⟩ | ⟨-, reserved⟩
  · exact absurd h h1
  · exact absurd h h2
  · exact absurd h h3
  · exact absurd h h4
  · exact absurd h h5
  · exact performOperation_of_reserved (s := s.endOperation.present op operand time) reserved

/-- Settles O12: an operation completes or raises one of the block's two errors, and touches no request. -/
theorem everyTransactionEnds : Obligations.EveryTransactionEnds := by
  intro s op operand time
  rw [step_request]
  rcases performOperation_cases (s.endOperation.present op operand time) with ⟨result, h⟩ | h | h
  · exact ⟨_, h, .inl rfl, rfl⟩
  · exact ⟨_, h, .inr (.inl rfl), rfl⟩
  · exact ⟨_, h, .inr (.inr rfl), rfl⟩

/-- R27: an instruction of the block overwrites `STATUS` and `OUT` and reads neither. -/
theorem exec_blockInstr_forgets_outcome {i : Instr} (hi : BlockInstr i) (s : State) (status : Byte) (out : List Byte) :
    exec i { s with status := status, out := out } = exec i s := by
  cases i with
  | csum | enc | dec | build | parse | respError | respRead | respEcho => rfl
  | _ => exact False.elim hi

/-- R69: what the operation select decodes to is an instruction of the block. -/
theorem blockInstr_of_decode_op {op : Byte} {i : Instr} (h : decode [op] = .ok i) : BlockInstr i := by
  rcases decode_op_cases op with ⟨-, h'⟩ | ⟨-, h'⟩ | ⟨-, h'⟩ | ⟨-, h'⟩ | ⟨-, h'⟩ | ⟨-, h'⟩ <;> cases h.symm.trans h'
  all_goals trivial

/-- R27, R186: an operation overwrites `STATUS` and `OUT` and reads neither. -/
theorem performOperation_forgets_outcome (s : State) (status : Byte) (out : List Byte) :
    performOperation { s with status := status, out := out } = performOperation s := by
  cases h : decode [s.op] with
  | ok i =>
    rw [performOperation_of_decode h, performOperation_of_decode (s := { s with status := status, out := out }) h]
    exact exec_blockInstr_forgets_outcome (blockInstr_of_decode_op h) s status out
  | error r =>
    rw [performOperation_of_reserved h, performOperation_of_reserved (s := { s with status := status, out := out }) h]
    rfl

/-- R185: an operation leaves every field but `STATUS` and `OUT`. -/
theorem performOperation_writes_outcome (s : State) :
    ∃ status out, performOperation s = .next { s with status := status, out := out } := by
  rcases performOperation_cases s with ⟨result, h⟩ | h | h
  · exact ⟨_, _, h⟩
  · exact ⟨_, _, h⟩
  · exact ⟨_, _, h⟩

/-- Settles O14: the first transaction leaves another `STATUS` and `OUT` behind, and the request fields that the second
overwrites. -/
theorem transactionLeavesNoTrace : Obligations.TransactionLeavesNoTrace := by
  intro s op op' operand operand' time time'
  obtain ⟨status, out, h⟩ := performOperation_writes_outcome
    ((s.request (.operation op' operand' time')).endOperation.present op operand time)
  refine ⟨_, (step_request _ (.operation op operand time)).trans h, ?_⟩
  rw [step_request, step_of_request rfl rfl]
  exact performOperation_forgets_outcome (s.endOperation.present op' operand' time') status out

/-! ### Frames (R26, R45, R76) -/

/-- Settles O11: `CSUM` always completes; each of the others completes with its whole result, or raises
`VALIDATION_ERROR` on an operand of another length. -/
theorem operationsAreAllOrNothing : Obligations.OperationsAreAllOrNothing := by
  intro s
  refine ⟨⟨_, exec_csum s, rfl, rfl⟩, ?_, ?_, ?_, ?_⟩
  · cases h : packetOperand s.inp with
    | some p => exact ⟨_, exec_enc_of_operand h, .inl ⟨rfl, Bytes.length_bytes _⟩⟩
    | none => exact ⟨_, exec_enc_of_no_operand h, .inr ⟨rfl, rfl⟩⟩
  · cases h : packetOperand s.inp with
    | some c => exact ⟨_, exec_dec_of_operand h, .inl ⟨rfl, Bytes.length_bytes _⟩⟩
    | none => exact ⟨_, exec_dec_of_no_operand h, .inr ⟨rfl, rfl⟩⟩
  · cases h : commandOperand s.inp with
    | some command => exact ⟨_, exec_build_of_operand h, .inl ⟨rfl, Bytes.length_bytes _⟩⟩
    | none => exact ⟨_, exec_build_of_no_operand h, .inr ⟨rfl, rfl⟩⟩
  · cases h : packetOperand s.inp with
    | some c => exact ⟨_, exec_parse_of_operand h, .inl ⟨rfl, Bytes.length_bytes _⟩⟩
    | none => exact ⟨_, exec_parse_of_no_operand h, .inr ⟨rfl, rfl⟩⟩

/-- Settles O16: completing and raising an error write `STATUS` and `OUT` alone. -/
theorem blockInstructionsWriteOnlyTheOutcome : Obligations.BlockInstructionsWriteOnlyTheOutcome := by
  intro i s t hi h
  rcases exec_cases_of_blockInstr hi s with ⟨result, h'⟩ | h'
  · cases h.symm.trans h'
    exact ⟨rfl, rfl, rfl, rfl, rfl, rfl, rfl⟩
  · cases h.symm.trans h'
    exact ⟨rfl, rfl, rfl, rfl, rfl, rfl, rfl⟩

/-- Settles O17: a builder that answers issues its `BUILD` or reports on the host. -/
theorem buildersWriteOnlyTheirTransaction : Obligations.BuildersWriteOnlyTheirTransaction := by
  intro i s t hi h
  obtain ⟨command, rfl, -⟩ := exec_builder_next hi h
  rcases s.issueChecked_cases command with ⟨c, -, h'⟩ | ⟨-, h'⟩
  · rw [h', State.issueBuild_eq]
    exact ⟨⟨rfl, rfl, rfl, rfl⟩, .inl ⟨c, rfl, rfl, rfl, rfl, Bytes.length_bytes _⟩⟩
  · rw [h']
    exact ⟨⟨rfl, rfl, rfl, rfl⟩, .inr rfl⟩

/-! ### What each operation reads (R95, R114, R126, R138) -/

/-- Settles O18: the checksum is a function of the tables, the cipher of `KEY` and `IV`, the window of `KEY`, and the
packet of the constants and `TIME`. -/
theorem eachOperationReadsOnlyItsInputs : Obligations.EachOperationReadsOnlyItsInputs := by
  intro s s' hin
  refine ⟨fun high low => ?_, fun key iv => ⟨?_, ?_⟩, fun key => ?_, fun constants time => ?_⟩
  · exact sameOutcome_csum hin (by rw [State.checksum, State.checksum, high, low])
  · exact sameOutcome_enc hin fun p => by rw [State.encrypt, State.encrypt, key, iv]
  · exact sameOutcome_dec hin fun c => by rw [State.decrypt, State.decrypt, key, iv]
  · exact sameOutcome_parse_of_key hin key
  · exact sameOutcome_build hin (State.buildPacket_congr constants time)

end Sys2Proof.Machine
end

section
/-! Proofs of the invariant of the machine and of its stops (10_state.md, 30_encoding.md, 60_exceptions.md): what each
operation returns, the invariant under each update of the state and each request, and the requests that can stop. -/

namespace Sys2Proof.Machine

/-! ### What an operation returns (R45, R66) -/

/-- R45, R66: the bytes an instruction of the block can return: a checksum, a packet or plaintext, or a legal record. -/
def OperationResult (result : List Byte) : Prop :=
  result.length = 2 ∨ result.length = 32 ∨ ∃ r : DeviceResponse, r.Legal ∧ result = (serialise r).bytes

/-- R44: 32 bytes are a result. -/
theorem operationResult_of_packet (packet : Bytes 32) : OperationResult packet.bytes :=
  .inr (.inl packet.len)

/-- R66: the bytes of a legal record are a result. -/
theorem operationResult_of_record {r : DeviceResponse} (legal : r.Legal) : OperationResult (serialise r).bytes :=
  .inr (.inr ⟨r, legal, rfl⟩)

/-- R135: the record of an echo term with a code other than `0x03`. -/
theorem echoRecord_legal_of_code {code : BitVec 7} (other : code ≠ 0x03#7) (slave d0 d1 d2 d3 : Byte) :
    (echoRecord slave (0#1 ++ code) d0 d1 d2 d3).Legal := by
  obtain ⟨bit, -, read⟩ := echoCode_fields code
  refine echoRecord_legal ?_ (mt read.mp other) slave d0 d1 d2 d3
  rw [← errorBit_eq, errorBit, bit]
  rfl

/-- R45, R185: what an instruction of the block that answers does. -/
theorem exec_blockInstr_next {i : Instr} {s t : State} (hi : BlockInstr i) (h : exec i s = .next t) :
    (∃ result, OperationResult result ∧ t = s.complete result) ∨ t = s.raiseError statusValidationError := by
  cases i with
  | csum =>
    cases h
    exact .inl ⟨_, .inl (Bytes.length_bytes _), rfl⟩
  | enc =>
    cases hp : packetOperand s.inp with
    | some p =>
      cases h.symm.trans (exec_enc_of_operand hp)
      exact .inl ⟨_, operationResult_of_packet _, rfl⟩
    | none =>
      cases h.symm.trans (exec_enc_of_no_operand hp)
      exact .inr rfl
  | dec =>
    cases hp : packetOperand s.inp with
    | some c =>
      cases h.symm.trans (exec_dec_of_operand hp)
      exact .inl ⟨_, operationResult_of_packet _, rfl⟩
    | none =>
      cases h.symm.trans (exec_dec_of_no_operand hp)
      exact .inr rfl
  | build =>
    cases hp : commandOperand s.inp with
    | some command =>
      cases h.symm.trans (exec_build_of_operand hp)
      exact .inl ⟨_, operationResult_of_packet _, rfl⟩
    | none =>
      cases h.symm.trans (exec_build_of_no_operand hp)
      exact .inr rfl
  | parse =>
    cases hp : packetOperand s.inp with
    | some c =>
      cases h.symm.trans (exec_parse_of_operand hp)
      exact .inl ⟨_, operationResult_of_record (classify_legal _), rfl⟩
    | none =>
      cases h.symm.trans (exec_parse_of_no_operand hp)
      exact .inr rfl
  | respError slave code exc =>
    cases h
    exact .inl ⟨_, operationResult_of_record (errorRecord_legal _ _ _), rfl⟩
  | respRead slave count d0 d1 d2 d3 =>
    cases h
    exact .inl ⟨_, operationResult_of_record (readRecord_legal _ _ _ _ _ _), rfl⟩
  | respEcho slave code d0 d1 d2 d3 x6 =>
    by_cases code3 : code = 0x03#7
    · subst code3
      cases h
      exact .inl ⟨_, operationResult_of_record (readRecord_legal _ _ _ _ _ _), rfl⟩
    · cases h.symm.trans (exec_respEcho_of_other code3 _ _ _ _ _ _ _)
      exact .inl ⟨_, operationResult_of_record (echoRecord_legal_of_code code3 _ _ _ _ _), rfl⟩
  | _ => exact False.elim hi

/-! ### The invariant under each update of the state -/

/-- R36: after reset the invariant holds. -/
theorem inv_reset : Inv State.reset where
  constants := rfl
  status := .inl rfl
  out := ⟨fun _ => rfl, .inl rfl, fun h => absurd h (by decide)⟩
  hostResult := trivial

/-- Settles O4: the reset state has the constants, `STATUS` `0x00`, no output, and a host that holds nothing. -/
theorem resetMeetsInvariant : Obligations.ResetMeetsInvariant := inv_reset

section
variable {s : State}

/-- The invariant speaks of the constants, `STATUS`, `OUT` and the host's result alone. -/
theorem Inv.of_fields {t : State} (inv : Inv s) (constants : t.constants = s.constants) (status : t.status = s.status)
    (out : t.out = s.out) (hostResult : t.hostResult = s.hostResult) : Inv t where
  constants := constants.trans inv.constants
  status := status ▸ inv.status
  out := by
    have legal := inv.out
    rw [LegalOut, State.outLen] at legal ⊢
    rw [status, out]
    exact legal
  hostResult := hostResult ▸ inv.hostResult

/-- R15, R45: an operation that returns its whole result keeps the invariant. -/
theorem Inv.complete (inv : Inv s) {result : List Byte} (h : OperationResult result) : Inv (s.complete result) where
  constants := inv.constants
  status := .inl rfl
  out := by
    refine ⟨fun failed => absurd rfl failed, ?_⟩
    rw [State.outLen, State.complete_out]
    rcases h with two | packet | ⟨r, legal, rfl⟩
    · exact ⟨.inr (.inl two), fun nine => by omega⟩
    · exact ⟨.inr (.inr (.inr packet)), fun nine => by omega⟩
    · exact ⟨.inr (.inr (.inl (Bytes.length_bytes _))), fun _ => ⟨r, legal, rfl⟩⟩
  hostResult := inv.hostResult

/-- R185: an error leaves no output. -/
theorem legalOut_of_out_nil {t : State} (h : t.out = []) : LegalOut t := by
  have length : t.outLen = 0 := congrArg List.length h
  exact ⟨fun _ => h, .inl length, fun nine => by omega⟩

/-- R183, R185: raising an error of the block keeps the invariant. -/
theorem Inv.raiseError (inv : Inv s) {code : Byte} (legal : LegalStatus code) : Inv (s.raiseError code) where
  constants := inv.constants
  status := legal
  out := legalOut_of_out_nil rfl
  hostResult := inv.hostResult

/-- R211: reset of the block keeps the invariant. -/
theorem Inv.resetBlock (inv : Inv s) : Inv s.resetBlock where
  constants := inv.constants
  status := .inl rfl
  out := legalOut_of_out_nil rfl
  hostResult := inv.hostResult

/-- R180: a legal outcome of a companion function keeps the invariant. -/
theorem Inv.setHostResult (inv : Inv s) {r : HostResult} (legal : LegalHostResult r) : Inv (s.setHostResult r) where
  constants := inv.constants
  status := inv.status
  out := inv.out
  hostResult := legal

/-- R76: the `BUILD` of a catalog command keeps the invariant: it is a completed operation of a host that holds the
command. -/
theorem Inv.issueBuild (inv : Inv s) {command : Bytes 6} (legal : LegalHostResult (.command command)) :
    Inv (s.issueBuild command) := by
  rw [State.issueBuild_eq]
  have completed := (inv.setHostResult legal).complete (operationResult_of_packet (s.buildPacket command))
  exact completed.of_fields rfl rfl rfl rfl

/-- R154: a builder with a range check keeps the invariant. -/
theorem Inv.issueChecked (inv : Inv s) {command : Option (Bytes 6)}
    (legal : ∀ c, command = some c → LegalHostResult (.command c)) : Inv (s.issueChecked command) := by
  rcases s.issueChecked_cases command with ⟨c, hc, h⟩ | ⟨-, h⟩
  · rw [h]
    exact inv.issueBuild (legal c hc)
  · rw [h]
    exact inv.setHostResult trivial

/-! ### The invariant under each request -/

/-- Every instruction that answers keeps the invariant. -/
theorem exec_inv {i : Instr} {t : State} (inv : Inv s) (h : exec i s = .next t) : Inv t := by
  by_cases hi : BlockInstr i
  · rcases exec_blockInstr_next hi h with ⟨result, legal, rfl⟩ | rfl
    · exact inv.complete legal
    · exact inv.raiseError (.inr (.inl rfl))
  · obtain ⟨command, rfl, legal⟩ := exec_builder_next hi h
    exact inv.issueChecked legal

/-- Every operation, with a reserved code too, keeps the invariant. -/
theorem performOperation_inv {t : State} (inv : Inv s) (h : performOperation s = .next t) : Inv t := by
  cases hd : decode [s.op] with
  | ok i => exact exec_inv inv ((performOperation_of_decode hd).symm.trans h)
  | error r =>
    cases h.symm.trans (performOperation_of_reserved hd)
    exact inv.raiseError (.inr (.inr rfl))

/-- Every catalog word and every window that answers keeps the invariant. -/
theorem performWord_inv {word : List Byte} {t : State} (inv : Inv s) (h : performWord word s = .next t) : Inv t := by
  rcases performWord_cases word s with ⟨i, -, h'⟩ | ⟨_, -, h'⟩
  · exact exec_inv inv (h'.symm.trans h)
  · cases h.symm.trans h'

/-- Every decoder that answers keeps the invariant. -/
theorem runDecoder_inv {d : ValueDecoder} {t : State} (inv : Inv s) (h : runDecoder d s = .next t) : Inv t := by
  rcases runDecoder_cases d s with ⟨-, h'⟩ | ⟨_, -, -, h'⟩ | ⟨_, result, -, hr, h'⟩
  · cases h.symm.trans h'
  · cases h.symm.trans h'
  · cases h.symm.trans h'
    exact inv.setHostResult (decodeRecord_legal hr)

/-- Every request that answers keeps the invariant. -/
theorem performRequest_inv {r : Request} {t : State} (inv : Inv s) (h : performRequest r s = .next t) : Inv t := by
  cases r with
  | operation op operand time =>
    exact performOperation_inv (s := s.present op operand time) (inv.of_fields rfl rfl rfl rfl) h
  | issue op operand time =>
    cases h
    exact inv.of_fields rfl rfl rfl rfl
  | catalogWord word time => exact performWord_inv (s := s.withTime time) (inv.of_fields rfl rfl rfl rfl) h
  | window word => exact performWord_inv inv h
  | call i time =>
    exact exec_inv (s := (s.withTime time).selectOp i) (inv.of_fields (by simp) (by simp) (by simp) (by simp)) h
  | decoder d => exact runDecoder_inv inv h
  | reset =>
    cases h
    exact inv.resetBlock

end

/-- Settles O5: an abandoned operation, an operation that comes to its outcome and the next request each keep the
invariant. -/
theorem everyStepKeepsInvariant : Obligations.EveryStepKeepsInvariant := by
  intro s t inv h
  rcases step_cases s with ⟨rest, hb, hp, -⟩ | ⟨-, -, h'⟩ | ⟨hb, -⟩
  · cases h.symm.trans (step_of_flight_reset hb hp)
    exact Inv.resetBlock (s := { s with pending := rest }) (inv.of_fields rfl rfl rfl rfl)
  · exact performOperation_inv (s := s.endOperation) (inv.of_fields rfl rfl rfl rfl) (h'.symm.trans h)
  · cases hp : s.pending with
    | nil =>
      cases h.symm.trans (step_of_idle hb hp)
      exact inv
    | cons r rest =>
      exact performRequest_inv (s := { s with pending := rest }) (inv.of_fields rfl rfl rfl rfl)
        ((step_of_request hb hp).symm.trans h)

/-! ### The requests that stop (R153, R164) -/

/-- R153: a temperature that fits its word has a command. -/
theorem setTemperatureCommand_of_wellFormed {celsius : Decimal} (wf : (Instr.setTemperature celsius).WellFormed) :
    setTemperatureCommand celsius ≠ none := by
  obtain ⟨mantissa, places⟩ := celsius
  simp only [Instr.WellFormed, Instr.wellFormed, Bool.and_eq_true, beq_iff_eq, decide_eq_true_eq] at wf
  obtain ⟨⟨rfl, least⟩, greatest⟩ := wf
  have tenths : temperatureTenths ⟨mantissa, 1⟩ = mantissa := temperatureTenths_of_near (by simp)
  simp only [setTemperatureCommand, tenths]
  rw [if_pos ⟨least, greatest⟩]
  exact Option.some_ne_none _

/-- Every instruction answers, but for `setTemperature` out of its range, which is refused. -/
theorem exec_next_or_refused (i : Instr) (s : State) :
    (∃ t, exec i s = .next t) ∨
    (∃ celsius, i = .setTemperature celsius ∧ setTemperatureCommand celsius = none ∧
      exec i s = .refused .temperatureOutOfRange) := by
  by_cases hi : BlockInstr i
  · rcases exec_cases_of_blockInstr hi s with ⟨_, h⟩ | h
    · exact .inl ⟨_, h⟩
    · exact .inl ⟨_, h⟩
  · rcases exec_cases_of_builder hi s with ⟨_, h⟩ | h
    · exact .inl ⟨_, h⟩
    · exact .inr h

/-- A word that decodes always answers: its instruction is well formed. -/
theorem performWord_next_or_refused (word : List Byte) (s : State) :
    (∃ t, performWord word s = .next t) ∨
    (∃ e, decode word = .error e ∧ performWord word s = .refused .noSuchCommand) := by
  rcases performWord_cases word s with ⟨i, hd, h⟩ | h
  · rcases exec_next_or_refused i s with ⟨t, ht⟩ | ⟨celsius, rfl, noCommand, -⟩
    · exact .inl ⟨t, h.trans ht⟩
    · exact absurd noCommand (setTemperatureCommand_of_wellFormed (encodeOfDecodeGivesTheWord word _ hd).1)
  · exact .inr h

/-- R60: a window always decodes. -/
theorem decode_window_ne_error (w : Bytes 7) (e : Rejection) : decode w.bytes ≠ .error e := by
  obtain ⟨b0, b1, b2, b3, b4, b5, b6, h⟩ := window_bytes w
  rw [h, decode_window]
  exact nofun

/-- The requests that can stop, each with its stop. -/
theorem performRequest_next_or_stops (r : Request) (s : State) :
    (∃ t, performRequest r s = .next t) ∨
    (∃ d, r = .decoder d ∧ deserialise s.out = none ∧ performRequest r s = .fault .noRecordOnOut) ∨
    (∃ d record, r = .decoder d ∧ deserialise s.out = some record ∧ performRequest r s = .refused .shortRecord) ∨
    (∃ w time e, r = .catalogWord w time ∧ decode w.bytes = .error e ∧ performRequest r s = .refused .noSuchCommand) ∨
    (∃ celsius time, r = .call (.setTemperature celsius) time ∧
      performRequest r s = .refused .temperatureOutOfRange) := by
  cases r with
  | operation op operand time =>
    obtain ⟨_, _, h⟩ := performOperation_writes_outcome (s.present op operand time)
    exact .inl ⟨_, h⟩
  | issue op operand time => exact .inl ⟨_, rfl⟩
  | catalogWord w time =>
    rcases performWord_next_or_refused w.bytes (s.withTime time) with h | ⟨e, hd, h⟩
    · exact .inl h
    · exact .inr (.inr (.inr (.inl ⟨w, time, e, rfl, hd, h⟩)))
  | window w =>
    rcases performWord_next_or_refused w.bytes s with h | ⟨e, hd, -⟩
    · exact .inl h
    · exact absurd hd (decode_window_ne_error w e)
  | call i time =>
    rcases exec_next_or_refused i ((s.withTime time).selectOp i) with h | ⟨celsius, rfl, -, h⟩
    · exact .inl h
    · exact .inr (.inr (.inr (.inr ⟨celsius, time, rfl, h⟩)))
  | decoder d =>
    rcases runDecoder_cases d s with ⟨hr, h⟩ | ⟨record, hr, -, h⟩ | ⟨_, _, -, -, h⟩
    · exact .inr (.inl ⟨d, rfl, hr, h⟩)
    · exact .inr (.inr (.inl ⟨d, record, rfl, hr, h⟩))
    · exact .inl ⟨_, h⟩
  | reset => exact .inl ⟨_, rfl⟩

/-- A step answers, or with no operation in flight performs the next request. -/
theorem step_next_or_request (s : State) :
    (∃ t, step s = .next t) ∨
    (s.busy = false ∧ ∃ r rest, s.pending = r :: rest ∧ step s = performRequest r { s with pending := rest }) := by
  rcases step_cases s with ⟨_, -, -, h⟩ | ⟨-, -, h⟩ | ⟨hb, -⟩
  · exact .inl ⟨_, h⟩
  · obtain ⟨_, _, h'⟩ := performOperation_writes_outcome s.endOperation
    exact .inl ⟨_, h.trans h'⟩
  · cases hp : s.pending with
    | nil => exact .inl ⟨_, step_of_idle hb hp⟩
    | cons r rest => exact .inr ⟨hb, r, rest, rfl, step_of_request hb hp⟩

/-- R66: under the invariant nine bytes on `OUT` are a record. -/
theorem Inv.deserialise_ne_none {s : State} (inv : Inv s) (nine : s.outLen = 9) : deserialise s.out ≠ none := by
  obtain ⟨-, -, record⟩ := inv.out
  obtain ⟨r, legal, h⟩ := record nine
  rw [h, deserialise_serialise legal.data_length_le]
  exact Option.some_ne_none r

/-- Settles O15: a step that stops performs a request that stops, and the invariant ties a decoder's stop to the
length of `OUT`. -/
theorem onlyTheseRequestsStop : Obligations.OnlyTheseRequestsStop := by
  intro s inv
  rcases step_next_or_request s with ⟨t, h⟩ | ⟨hb, request, rest, hp, h⟩
  · rw [h]
    exact ⟨nofun, nofun⟩
  rcases performRequest_next_or_stops request { s with pending := rest } with
    ⟨t, h'⟩ | ⟨d, rfl, noRecord, h'⟩ | ⟨d, record, rfl, onOut, h'⟩ | ⟨w, time, e, rfl, hd, h'⟩ |
    ⟨celsius, time, rfl, h'⟩
  · rw [h, h']
    exact ⟨nofun, nofun⟩
  · rw [h, h']
    exact ⟨fun _ _ => ⟨hb, d, rest, hp, fun nine => inv.deserialise_ne_none nine noRecord⟩, nofun⟩
  · rw [h, h']
    exact ⟨nofun, fun _ _ => ⟨hb, .inl ⟨d, rest, hp, length_of_deserialise onOut⟩⟩⟩
  · rw [h, h']
    exact ⟨nofun, fun _ _ => ⟨hb, .inr (.inl ⟨w, time, rest, e, hp, hd⟩)⟩⟩
  · rw [h, h']
    exact ⟨nofun, fun _ _ => ⟨hb, .inr (.inr ⟨celsius, time, rest, hp⟩)⟩⟩

end Sys2Proof.Machine
end
